-- ==== Sys2Proof/Word.lean ====
section
/-! DEFINITION. The words of the part: bytes, addresses, instance numbers (scope 6.3) and the four byte lanes of a word
(scope 6.2). -/

namespace Sys2Proof

/-- One byte, on a bus lane or on the management wire. -/
abbrev Byte := BitVec 8

/-- A 32-bit byte address (scope 6.2). -/
abbrev Addr := BitVec 32

/-- A release group, G0 to G7. -/
abbrev GroupId := Fin 8

/-- A window, W0 to W15. -/
abbrev WindowId := Fin 16

/-- A timing channel: the number n here is channel C(n+1), so 0 to 7 are C1 to C8. -/
abbrev Channel := Fin 8

/-- A profile, P0 to P3. -/
abbrev Profile := Fin 4

/-- One value for each of the four byte lanes L0 to L3 of a word (scope 6.2). -/
structure PerLane (α : Type) where
  l0 : α
  l1 : α
  l2 : α
  l3 : α
  deriving DecidableEq, Repr

/-- A set of lanes. -/
abbrev LaneSet := PerLane Bool

/-- The four data bytes of a bus cycle. -/
abbrev WordData := PerLane Byte

/-- Data held for some of the lanes: a lane with no byte is a lane the holder does not carry. -/
abbrev LaneBytes := PerLane (Option Byte)

/-- The eight groups in ascending order. -/
def groupIds : List GroupId := [0, 1, 2, 3, 4, 5, 6, 7]

end Sys2Proof
end

