-- ==== Sys2Proof/Config.lean ====
section
/-! DEFINITION. What the spec fixes for every part (the sizes of its queues and its fixed limits) and the one value it
leaves open, which is an uninterpreted constant: nothing in Lean can evaluate it. -/

namespace Sys2Proof.Config

/-- Places of the staging queue (R22). -/
def queuePlaces : Nat := 512

/-- Places of the completion queue (R153). -/
def completionPlaces : Nat := 32

/-- Places of the event queue (R155). -/
def eventPlaces : Nat := 16

/-- The carrier timer's starting value, in ticks (R102). -/
def carrierTicks : Nat := 8

/-- Good frames in a row that take the link to UP (R105). -/
def acquireRun : Nat := 4

/-- Results the quality history holds (R106). -/
def historyPlaces : Nat := 8

/-- Bad results that take the link out of UP (R107). -/
def fallbackBad : Nat := 3

/-- The top of a 16-bit saturating count (R61, R79). -/
def countTop : Nat := 65535

/-- The top of the missed count (R58) and of the burst count (R93). -/
def byteTop : Nat := 255

/-- The top of a batch tally (R88). -/
def tallyTop : Nat := 4294967295

/-- HOLD_LIMIT after a pin reset and RESET_ALL (R37). -/
def holdLimitReset : Nat := 50

/-- D_TIMEOUT after a pin reset and RESET_ALL (R97). -/
def dTimeoutReset : Nat := 64

/-- BURST_LIMIT after a pin reset and RESET_ALL (R93). -/
def burstLimitReset : Nat := 8

/-- The filler byte, sent where the management port has no message byte to send (R163, R175). -/
def filler : BitVec 8 := 0xFF#8

/-- The clock periods of one byte group (R163). -/
def groupBits : Nat := 8

/-- FREE VALUE. The byte by which GET_LINK codes the carrier, present (true) or absent (false): R121 gives the item its two
values and R176 gives them no code. DESIGN CHOICE, log entry 9 (safe: nothing is known of it). -/
opaque carrierCode : Bool → Byte

end Sys2Proof.Config
end

