-- ==== Sys2Proof/Syntax.lean ====
section
/-! DEFINITION. The commands: one constructor of Instr for each row of spec/opcode_table.json, in the table's order. A row that
stands for a settled command message carries the message's argument bytes, at the widths of the catalogue (9.4, R176), so that
every value the wire can carry, good or bad, is an operand. -/

namespace Sys2Proof

/-- Direction of a bus cycle (1.1.1). -/
inductive CycleKind where
  | read
  | write
  deriving DecidableEq, Repr

/-- Privilege of an upstream cycle (1.1.1). -/
inductive CycleClass where
  | normal
  | privileged
  deriving DecidableEq, Repr

/-- What memory answers at the D-port (1.2): DONE with four bytes (they mean something for a READ alone), or ERROR. -/
inductive MemResponse where
  | done (data : WordData)
  | error
  deriving DecidableEq, Repr

/-- How a link frame ends (R101): its 32 bits taken, the first sent being the most significant, or truncated. -/
inductive LinkFrame where
  | whole (bits : BitVec 32)
  | truncated
  deriving DecidableEq, Repr

/-- The arguments of SET_GROUP after the group byte, at offsets 1 to 18 of Section 9.6.3. -/
structure GroupArgs where
  triggerSource : Byte
  channelSet : Byte
  matchCode : Byte
  matchMask : Byte
  profileSet : Byte
  armRequired : Byte
  delay : BitVec 24
  mode : Byte
  repeatCount : BitVec 16
  interval : BitVec 24
  quota : BitVec 16
  faultPolicy : Byte
  deriving DecidableEq, Repr

/-- The commands of the part: operations on its ports and events in it. -/
inductive Instr where
  /-- UPSTREAM_CYCLE: a cycle arrives at the U-port (R1). -/
  | upstreamCycle (addr : Addr) (kind : CycleKind) (cls : CycleClass) (lanes : LaneSet) (data : WordData)
  /-- DOWNSTREAM_RESPONSE: memory answers at the D-port (R94). -/
  | downstreamResponse (r : MemResponse)
  /-- DOWNSTREAM_TIMEOUT: the expiry of the downstream timer is taken (R94). -/
  | downstreamTimeout
  /-- RECOVERY_EXPIRY: the expiry of the recovery timer is taken (R95). -/
  | recoveryExpiry
  /-- HOLD_EXPIRY: the expiry of the hold timer is taken (R33). -/
  | holdExpiry
  /-- DELAY_EXPIRY: the expiry of a group's delay is taken (R57). -/
  | delayExpiry (g : GroupId)
  /-- INTERVAL_EXPIRY: the expiry of a group's interval is taken in INTERVAL (R64). -/
  | intervalExpiry (g : GroupId)
  /-- LATE: the expiry of a group's interval is taken with a repetition underway (R65). -/
  | late (g : GroupId)
  /-- TICK: one microsecond of the time base (R123). -/
  | tick
  /-- CARRIER_PRESENT: a transition on a line without carrier (R102, R104). -/
  | carrierPresent
  /-- CARRIER_LOSS: the expiry of the carrier timer is taken (R102, R108). -/
  | carrierLoss
  /-- FRAME_RECEIVED: a link frame is received (R101). -/
  | frameReceived (f : LinkFrame)
  /-- TRIG_EDGE: a rising edge at TRIG (R117). -/
  | trigEdge
  /-- INH_CHANGE: the INH pin is at this level, high or low, from now on (R135). -/
  | inhChange (high : Bool)
  /-- RST_ASSERTED: RST goes low, or power comes on (R172). -/
  | rstAsserted
  /-- RST_RELEASED: RST goes high; the straps STN7 to STN0 and DPOL are sampled (R6, R120). -/
  | rstReleased (stn : Byte) (dpol : Bool)
  /-- SELECT_ASSERTED: the select line of the management port is asserted (R164). -/
  | selectAsserted
  /-- SELECT_RELEASED: the select line is released (R169). -/
  | selectReleased
  /-- RESPONSE_SENT: the byte group that carries the response's check byte is complete (R157, R164). -/
  | responseSent
  /-- CHECK_ERROR: a command message with a bad check is settled (R166). -/
  | checkError (msg : List Byte)
  /-- BAD_COMMAND: a command message with a good check, but an unknown identifier or a wrong length, is settled (R166). -/
  | badCommand (msg : List Byte)
  /-- SET_WINDOW (R18). -/
  | setWindow (window : Byte) (base size : BitVec 32) (kind filter group view merge : Byte)
  /-- SET_WINDOW_ENABLE (R19). -/
  | setWindowEnable (window value : Byte)
  /-- GET_WINDOW (R21). -/
  | getWindow (window : Byte)
  /-- SET_PATH (R173). -/
  | setPath (policy : Byte) (holdLimit dTimeout : BitVec 16) (burstLimit : Byte)
  /-- GET_PATH (R173). -/
  | getPath
  /-- SET_GROUP (R67, R68). -/
  | setGroup (group : Byte) (args : GroupArgs)
  /-- GET_GROUP (R72). -/
  | getGroup (group : Byte)
  /-- ENABLE_GROUP (R69). -/
  | enableGroup (group : Byte)
  /-- DISABLE_GROUP (R70). -/
  | disableGroup (group : Byte)
  /-- ARM (R144). -/
  | arm (groupSet : Byte)
  /-- CLEAR_MISSED (R71). -/
  | clearMissed (group : Byte)
  /-- PURGE_COLLECTING: PURGE whose scope byte is COLLECTING's, or one that has no code and is refused (R44). -/
  | purgeCollecting (group scope : Byte)
  /-- PURGE_ALL: PURGE with scope ALL (R45). -/
  | purgeAll (group : Byte)
  /-- RESUME_RETRY: RESUME whose choice byte is RETRY's, or one that has no code and is refused (R85, R86). -/
  | resumeRetry (group choice : Byte)
  /-- RESUME_SKIP: RESUME with SKIP (R85, R87). -/
  | resumeSkip (group : Byte)
  /-- READ_ENTRY (R46). -/
  | readEntry (group : Byte) (index : BitVec 16)
  /-- SET_TIMING (R174). -/
  | setTiming (source channel profile onLinkLoss : Byte)
  /-- GET_TIMING (R174). -/
  | getTiming
  /-- LOCAL_FRAME_TRIGGER: LOCAL_FRAME whose kind byte is TRIGGER's, or one that R119 refuses whatever the rest. -/
  | localFrameTrigger (kind profile argument : Byte)
  /-- LOCAL_FRAME_EVENT: LOCAL_FRAME of kind EVENT (R119). -/
  | localFrameEvent (profile argument : Byte)
  /-- LOCAL_FRAME_SETUP: LOCAL_FRAME of kind SETUP (R119). -/
  | localFrameSetup (profile argument : Byte)
  /-- LOCAL_FRAME_STOP: LOCAL_FRAME of kind STOP (R119). -/
  | localFrameStop (profile argument : Byte)
  /-- LOCAL_FRAME_EPOCH: LOCAL_FRAME of kind EPOCH (R119). -/
  | localFrameEpoch (profile argument : Byte)
  /-- SET_HOST_INHIBIT (R136). -/
  | setHostInhibit (value : Byte)
  /-- GET_EPOCH (R131). -/
  | getEpoch
  /-- GET_LINK (R121). -/
  | getLink
  /-- GET_STATUS (R160). -/
  | getStatus
  /-- SET_MASK (R152). -/
  | setMask (causes : BitVec 16)
  /-- CLEAR_CAUSES (R151). -/
  | clearCauses (causes : BitVec 16)
  /-- TAKE_COMPLETION (R156). -/
  | takeCompletion
  /-- TAKE_EVENT (R156). -/
  | takeEvent
  /-- GET_REFUSAL (R158). -/
  | getRefusal
  /-- CLEAR_REFUSAL (R159). -/
  | clearRefusal
  /-- RESET_DATAPATH (R170). -/
  | resetDatapath
  /-- RESET_ALL (R171). -/
  | resetAll
  /-- LINE_TRANSITION: a transition on the timing line while carrier is present (R102). -/
  | lineTransition
  /-- START_MARKER: a start marker is detected on the timing line (R101). -/
  | startMarker
  deriving DecidableEq, Repr

end Sys2Proof
end

