-- ==== Sys2Proof/Decode.lean ====
section
/-! DEFINITION. The wire: the check register (R103, R165), the fields of a link frame (9.6.1), and the command messages of the
management port (9.1.2, 9.4): Instr.ofMessage reads the command a complete message is settled as, Instr.message writes the message
of a command. The table of operations gives no row any bits, so decodeTableWord reads no command from a word. -/

namespace Sys2Proof

/-! ### The check -/

/-- One bit into the check register: the polynomial x⁸ + x² + x + 1, most significant end first (R103). -/
def crcStep (reg : Byte) (bit : Bool) : Byte :=
  if bit != reg.msb then (reg <<< 1) ^^^ 0x07#8 else reg <<< 1

/-- The bits of a byte, most significant first (R165). -/
def byteBits (b : Byte) : List Bool :=
  [b.getMsbD 0, b.getMsbD 1, b.getMsbD 2, b.getMsbD 3, b.getMsbD 4, b.getMsbD 5, b.getMsbD 6, b.getMsbD 7]

/-- The check over some bytes, in order, the register starting at 0 (R103, R165). -/
def crcBytes (bytes : List Byte) : Byte :=
  (bytes.flatMap byteBits).foldl crcStep 0

/-! ### Values of several bytes -/

/-- A 16-bit value from its two bytes, most significant first (R176). -/
def join2 (b1 b0 : Byte) : BitVec 16 := (b1 ++ b0 : BitVec (8 + 8))

/-- A 24-bit value from its three bytes, most significant first (R176). -/
def join3 (b2 b1 b0 : Byte) : BitVec 24 := (b2 ++ b1 ++ b0 : BitVec (8 + 8 + 8))

/-- A 32-bit value from its four bytes, most significant first (R176). -/
def join4 (b3 b2 b1 b0 : Byte) : BitVec 32 := (b3 ++ b2 ++ b1 ++ b0 : BitVec (8 + 8 + 8 + 8))

/-- Byte number k of a value, byte 0 being the least significant. -/
def byteAt {w : Nat} (x : BitVec w) (k : Nat) : Byte := x.extractLsb' (8 * k) 8

/-- The two bytes of a 16-bit value, most significant first (R176). -/
def split2 (x : BitVec 16) : List Byte := [byteAt x 1, byteAt x 0]

/-- The three bytes of a 24-bit value, most significant first (R176). -/
def split3 (x : BitVec 24) : List Byte := [byteAt x 2, byteAt x 1, byteAt x 0]

/-- The four bytes of a 32-bit value, most significant first (R176). -/
def split4 (x : BitVec 32) : List Byte := [byteAt x 3, byteAt x 2, byteAt x 1, byteAt x 0]

/-! ### Link frames -/

/-- The frame kinds; every 3-bit code names one, code 7 the invalid one (R176). -/
inductive FrameKind where
  | trigger
  | event
  | inhibit
  | uninhibit
  | setup
  | stop
  | epoch
  | invalid
  deriving DecidableEq, Repr

/-- The kind a 3-bit frame-kind code names (R176). -/
def FrameKind.ofCode (c : BitVec 3) : FrameKind :=
  match c.toNat with
  | 0 => .trigger
  | 1 => .event
  | 2 => .inhibit
  | 3 => .uninhibit
  | 4 => .setup
  | 5 => .stop
  | 6 => .epoch
  | _ => .invalid

/-- The fields of a link frame but its check (5.2). -/
structure FrameFields where
  station : Byte
  kind : FrameKind
  profile : Profile
  argument : Byte
  sequence : BitVec 3
  deriving DecidableEq, Repr

/-- The fields at their places in the 32 bits, the first bit sent being the most significant (9.6.1). -/
def FrameFields.ofBits (bits : BitVec 32) : FrameFields where
  station := bits.extractLsb' 24 8
  kind := FrameKind.ofCode (bits.extractLsb' 21 3)
  profile := (bits.extractLsb' 19 2).toFin
  argument := bits.extractLsb' 11 8
  sequence := bits.extractLsb' 8 3

/-- A frame's check is good when the check over its first 24 bits equals its last 8 (R103); a truncated frame's is bad. -/
def LinkFrame.checkGood : LinkFrame → Bool
  | .whole bits => crcBytes [byteAt bits 3, byteAt bits 2, byteAt bits 1] == byteAt bits 0
  | .truncated => false

/-! ### Command messages -/

/-- The fixed argument length of each command of the catalogue, by identifier (9.4). -/
def argLength (id : Byte) : Option Nat :=
  match id.toNat with
  | 0x10 => some 14
  | 0x11 => some 2
  | 0x12 => some 1
  | 0x13 => some 6
  | 0x14 => some 0
  | 0x20 => some 19
  | 0x21 => some 1
  | 0x22 => some 1
  | 0x23 => some 1
  | 0x24 => some 1
  | 0x25 => some 1
  | 0x26 => some 2
  | 0x27 => some 2
  | 0x28 => some 3
  | 0x30 => some 4
  | 0x31 => some 0
  | 0x32 => some 3
  | 0x33 => some 1
  | 0x34 => some 0
  | 0x35 => some 0
  | 0x40 => some 0
  | 0x41 => some 2
  | 0x42 => some 2
  | 0x43 => some 0
  | 0x44 => some 0
  | 0x45 => some 0
  | 0x46 => some 0
  | 0x50 => some 0
  | 0x51 => some 0
  | _ => none

/-- SET_WINDOW from its argument bytes (9.6.2). -/
def ofSetWindow : List Byte → Option Instr
  | [w, b3, b2, b1, b0, s3, s2, s1, s0, kind, filter, group, view, merge] =>
    some (.setWindow w (join4 b3 b2 b1 b0) (join4 s3 s2 s1 s0) kind filter group view merge)
  | _ => none

/-- SET_PATH from its argument bytes (9.4). -/
def ofSetPath : List Byte → Option Instr
  | [policy, h1, h0, d1, d0, burst] => some (.setPath policy (join2 h1 h0) (join2 d1 d0) burst)
  | _ => none

/-- SET_GROUP from its argument bytes (9.6.3). -/
def ofSetGroup : List Byte → Option Instr
  | [group, src, chans, code, mask, profs, armReq, d2, d1, d0, mode, r1, r0, i2, i1, i0, q1, q0, policy] =>
    some (.setGroup group
      { triggerSource := src, channelSet := chans, matchCode := code, matchMask := mask, profileSet := profs
        armRequired := armReq, delay := join3 d2 d1 d0, mode := mode, repeatCount := join2 r1 r0
        interval := join3 i2 i1 i0, quota := join2 q1 q0, faultPolicy := policy })
  | _ => none

/-- A command of one argument byte. -/
def ofOne (f : Byte → Instr) : List Byte → Option Instr
  | [a] => some (f a)
  | _ => none

/-- A command of two argument bytes. -/
def ofTwo (f : Byte → Byte → Instr) : List Byte → Option Instr
  | [a, b] => some (f a b)
  | _ => none

/-- A command of three argument bytes. -/
def ofThree (f : Byte → Byte → Byte → Instr) : List Byte → Option Instr
  | [a, b, c] => some (f a b c)
  | _ => none

/-- A command of four argument bytes. -/
def ofFour (f : Byte → Byte → Byte → Byte → Instr) : List Byte → Option Instr
  | [a, b, c, d] => some (f a b c d)
  | _ => none

/-- PURGE: scope 1 is ALL; scope 0, and a scope with no code, is the row PURGE_COLLECTING's (R44, R45, R176). -/
def ofPurge (group scope : Byte) : Instr :=
  if scope = 1#8 then .purgeAll group else .purgeCollecting group scope

/-- RESUME: choice 1 is SKIP; choice 0, and a choice with no code, is the row RESUME_RETRY's (R85, R176). -/
def ofResume (group choice : Byte) : Instr :=
  if choice = 1#8 then .resumeSkip group else .resumeRetry group choice

/-- LOCAL_FRAME: each kind it takes is a row; a kind it refuses is the row LOCAL_FRAME_TRIGGER's (R119, R176). -/
def ofLocalFrame (kind profile argument : Byte) : Instr :=
  match kind.toNat with
  | 1 => .localFrameEvent profile argument
  | 4 => .localFrameSetup profile argument
  | 5 => .localFrameStop profile argument
  | 6 => .localFrameEpoch profile argument
  | _ => .localFrameTrigger kind profile argument

/-- The command of an identifier of the catalogue with its argument bytes, or none where there is no such command (9.4). -/
def Instr.ofArgs (id : Byte) (args : List Byte) : Option Instr :=
  match id.toNat with
  | 0x10 => ofSetWindow args
  | 0x11 => ofTwo .setWindowEnable args
  | 0x12 => ofOne .getWindow args
  | 0x13 => ofSetPath args
  | 0x14 => if args = [] then some .getPath else none
  | 0x20 => ofSetGroup args
  | 0x21 => ofOne .getGroup args
  | 0x22 => ofOne .enableGroup args
  | 0x23 => ofOne .disableGroup args
  | 0x24 => ofOne .arm args
  | 0x25 => ofOne .clearMissed args
  | 0x26 => ofTwo ofPurge args
  | 0x27 => ofTwo ofResume args
  | 0x28 => ofThree (fun g i1 i0 => .readEntry g (join2 i1 i0)) args
  | 0x30 => ofFour .setTiming args
  | 0x31 => if args = [] then some .getTiming else none
  | 0x32 => ofThree ofLocalFrame args
  | 0x33 => ofOne .setHostInhibit args
  | 0x34 => if args = [] then some .getEpoch else none
  | 0x35 => if args = [] then some .getLink else none
  | 0x40 => if args = [] then some .getStatus else none
  | 0x41 => ofTwo (fun c1 c0 => .setMask (join2 c1 c0)) args
  | 0x42 => ofTwo (fun c1 c0 => .clearCauses (join2 c1 c0)) args
  | 0x43 => if args = [] then some .takeCompletion else none
  | 0x44 => if args = [] then some .takeEvent else none
  | 0x45 => if args = [] then some .getRefusal else none
  | 0x46 => if args = [] then some .clearRefusal else none
  | 0x50 => if args = [] then some .resetDatapath else none
  | 0x51 => if args = [] then some .resetAll else none
  | _ => none

/-- The parts of a complete command message (R165): identifier, length byte, arguments, check byte. A length byte of 0 to 30 is
followed by that many arguments; after a greater one the check byte follows at once. -/
structure MessageParts where
  id : Byte
  len : Byte
  args : List Byte
  check : Byte
  deriving DecidableEq, Repr

/-- How many argument bytes follow a length byte (R165). -/
def argBytes (len : Byte) : Nat := if len.toNat ≤ 30 then len.toNat else 0

/-- The parts of a message, or none where the bytes are no complete command message (R165). -/
def messageParts : List Byte → Option MessageParts
  | id :: len :: rest =>
    match rest.drop (argBytes len) with
    | [check] => some ⟨id, len, rest.take (argBytes len), check⟩
    | _ => none
  | _ => none

/-- The message's check is good: it equals the check over the bytes before it (R165). -/
def MessageParts.checkGood (p : MessageParts) : Bool := crcBytes (p.id :: p.len :: p.args) == p.check

/-- The identifier is in the catalogue and the length byte is its argument length (R166, 9.4). -/
def MessageParts.inCatalogue (p : MessageParts) : Bool := argLength p.id == some p.len.toNat

/-- The row a complete command message is settled as, by the tests of R166 in their order: a bad check, then an unknown
identifier or a wrong length, then the command itself (whose own meaning makes the owner rule's tests). -/
def Instr.ofMessage (msg : List Byte) : Option Instr :=
  match messageParts msg with
  | none => none
  | some p =>
    if !p.checkGood then some (.checkError msg)
    else if !p.inCatalogue then some (.badCommand msg)
    else Instr.ofArgs p.id p.args

/-- A command's identifier and argument bytes (9.4); none for the rows that are no command of the catalogue. -/
def Instr.wire : Instr → Option (Byte × List Byte)
  | .upstreamCycle _ _ _ _ _ => none
  | .downstreamResponse _ => none
  | .downstreamTimeout => none
  | .recoveryExpiry => none
  | .holdExpiry => none
  | .delayExpiry _ => none
  | .intervalExpiry _ => none
  | .late _ => none
  | .tick => none
  | .carrierPresent => none
  | .carrierLoss => none
  | .frameReceived _ => none
  | .trigEdge => none
  | .inhChange _ => none
  | .rstAsserted => none
  | .rstReleased _ _ => none
  | .selectAsserted => none
  | .selectReleased => none
  | .responseSent => none
  | .checkError _ => none
  | .badCommand _ => none
  | .setWindow w base size kind filter group view merge =>
    some (0x10#8, w :: split4 base ++ split4 size ++ [kind, filter, group, view, merge])
  | .setWindowEnable w v => some (0x11#8, [w, v])
  | .getWindow w => some (0x12#8, [w])
  | .setPath policy hold dt burst => some (0x13#8, policy :: split2 hold ++ split2 dt ++ [burst])
  | .getPath => some (0x14#8, [])
  | .setGroup g a =>
    some (0x20#8, [g, a.triggerSource, a.channelSet, a.matchCode, a.matchMask, a.profileSet, a.armRequired] ++ split3 a.delay ++
      [a.mode] ++ split2 a.repeatCount ++ split3 a.interval ++ split2 a.quota ++ [a.faultPolicy])
  | .getGroup g => some (0x21#8, [g])
  | .enableGroup g => some (0x22#8, [g])
  | .disableGroup g => some (0x23#8, [g])
  | .arm gs => some (0x24#8, [gs])
  | .clearMissed g => some (0x25#8, [g])
  | .purgeCollecting g scope => some (0x26#8, [g, scope])
  | .purgeAll g => some (0x26#8, [g, 1#8])
  | .resumeRetry g choice => some (0x27#8, [g, choice])
  | .resumeSkip g => some (0x27#8, [g, 1#8])
  | .readEntry g index => some (0x28#8, g :: split2 index)
  | .setTiming src ch p loss => some (0x30#8, [src, ch, p, loss])
  | .getTiming => some (0x31#8, [])
  | .localFrameTrigger kind p a => some (0x32#8, [kind, p, a])
  | .localFrameEvent p a => some (0x32#8, [1#8, p, a])
  | .localFrameSetup p a => some (0x32#8, [4#8, p, a])
  | .localFrameStop p a => some (0x32#8, [5#8, p, a])
  | .localFrameEpoch p a => some (0x32#8, [6#8, p, a])
  | .setHostInhibit v => some (0x33#8, [v])
  | .getEpoch => some (0x34#8, [])
  | .getLink => some (0x35#8, [])
  | .getStatus => some (0x40#8, [])
  | .setMask c => some (0x41#8, split2 c)
  | .clearCauses c => some (0x42#8, split2 c)
  | .takeCompletion => some (0x43#8, [])
  | .takeEvent => some (0x44#8, [])
  | .getRefusal => some (0x45#8, [])
  | .clearRefusal => some (0x46#8, [])
  | .resetDatapath => some (0x50#8, [])
  | .resetAll => some (0x51#8, [])
  | .lineTransition => none
  | .startMarker => none

/-- The message of an identifier with its arguments, its length byte and its check (9.6.1). -/
def commandMessage (id : Byte) (args : List Byte) : List Byte :=
  let body := id :: BitVec.ofNat 8 args.length :: args
  body ++ [crcBytes body]

/-- The bytes of the command message that is settled as this row; none of the other rows has any. -/
def Instr.message (i : Instr) : List Byte :=
  match i with
  | .checkError msg => msg
  | .badCommand msg => msg
  | i =>
    match i.wire with
    | some (id, args) => commandMessage id args
    | none => []

/-! ### The table's words -/

/-- The command that a word of the table's bits spells. The table gives no row any bits (log entry 22), so no word spells one. -/
def decodeTableWord (_nbits _w : Nat) : Option Instr := none

end Sys2Proof
end

