-- ==== Sys2Proof/Machine/Blocks.lean ====
section
/-! DEFINITION. What each block of the part holds (scope, Section 2) and the values a pin reset and RESET_ALL leave there. -/

namespace Sys2Proof.Machine

/-! ### Timers and stamps -/

/-- A countdown of whole ticks (R127). `due`: a tick has taken the count to 0, and the owning block has not yet taken the expiry
(log entry 3). -/
inductive Timer where
  | stopped
  | running (n : Nat)
  | due
  deriving DecidableEq, Repr

/-- A time stamp: the generation and the epoch counter in force (R130). -/
structure Stamp where
  generation : Byte
  counter : BitVec 48
  deriving DecidableEq, Repr

/-! ### Window decoder (Chapter 1) -/

/-- The default policy (1.3.2). -/
inductive Policy where
  | pass
  | refuse
  deriving DecidableEq, Repr

/-- A window's kind (1.3.1). -/
inductive WindowKind where
  | pass
  | stage
  | guard
  | closed
  deriving DecidableEq, Repr

/-- A window's class filter (1.3.1). -/
inductive ClassFilter where
  | any
  | privilegedOnly
  deriving DecidableEq, Repr

/-- A window's read view (1.3.1). -/
inductive ReadView where
  | memory
  | forward
  deriving DecidableEq, Repr

/-- A window's merge policy (1.3.1). -/
inductive MergePolicy where
  | keep
  | merge
  deriving DecidableEq, Repr

/-- A window record (1.3.1). -/
structure Window where
  enabled : Bool
  base : BitVec 32
  size : BitVec 32
  kind : WindowKind
  filter : ClassFilter
  group : GroupId
  view : ReadView
  merge : MergePolicy
  deriving DecidableEq, Repr

/-- A window record after a pin reset or RESET_ALL (R5). -/
def Window.reset : Window where
  enabled := false
  base := 0
  size := 0x1000#32
  kind := .pass
  filter := .any
  group := 0
  view := .memory
  merge := .keep

/-- The window decoder's state: the window table, the default policy, and the strap latch of DPOL (true: tied high) (R6). -/
structure Decoder where
  windows : Vector Window 16
  policy : Policy
  dpolLatch : Bool
  deriving DecidableEq, Repr

/-- The default policy a DPOL strap sets: PASS if high, REFUSE if low (R6). -/
def Policy.ofStrap (dpol : Bool) : Policy := if dpol then .pass else .refuse

/-! ### Cycles -/

/-- An upstream cycle as the part receives it (1.1.1). -/
structure UCycle where
  addr : Addr
  kind : CycleKind
  cls : CycleClass
  lanes : LaneSet
  data : WordData
  deriving DecidableEq, Repr

/-- A downstream cycle (1.2); a lane with no byte has no meaningful data. -/
structure DCycle where
  addr : Addr
  kind : CycleKind
  lanes : LaneSet
  data : LaneBytes
  deriving DecidableEq, Repr

/-- The response given to an upstream cycle (1.1.1); `data` is the read data, where there is any. -/
inductive UResponse where
  | done (data : Option WordData)
  | error (data : Option WordData)
  | retry
  deriving DecidableEq, Repr

/-- A claim on the downstream port: a request waiting for its grant, or granted and in flight (R91). -/
inductive Claim where
  | waiting
  | inFlight
  deriving DecidableEq, Repr

/-- What the host path's cycle is: a pass-through cycle (R16), or a forwarding read with the lanes its lookup covered (R39). -/
inductive Route where
  | passThrough
  | forwarding (covered : LaneBytes)
  deriving DecidableEq, Repr

/-- The unanswered upstream cycle of the host path: the cycle, the window it was decoded through (none: the default policy), its
route and its claim on the port (R14, R16, R39). -/
structure HostCycle where
  cycle : UCycle
  window : Option WindowId
  route : Route
  claim : Claim
  deriving DecidableEq, Repr

/-- The upstream side: the host path's unanswered cycle, and the response last driven on the U-port, none from a cycle's
arrival until its response (log entry 14). -/
structure Upstream where
  host : Option HostCycle
  response : Option UResponse
  deriving DecidableEq, Repr

/-! ### Staging queue (Chapter 2) -/

/-- The part of its group an entry belongs to (2.1.1). -/
inductive EntryPart where
  | batch
  | collecting
  deriving DecidableEq, Repr

/-- An entry of the staging queue (2.1.1); its lanes are those for which it holds a byte. -/
structure Entry where
  group : GroupId
  word : Addr
  bytes : LaneBytes
  window : WindowId
  cls : CycleClass
  mergeable : Bool
  arrival : BitVec 16
  part : EntryPart
  deriving DecidableEq, Repr

/-- A staged write with the values fixed at its decode (R11). -/
structure StagedWrite where
  group : GroupId
  word : Addr
  bytes : LaneBytes
  window : WindowId
  cls : CycleClass
  mergeable : Bool
  deriving DecidableEq, Repr

/-- The staging queue: its entries, head first; the arrival counter; the held write and its timer; HOLD_LIMIT. -/
structure Queue where
  entries : List Entry
  arrival : BitVec 16
  held : Option StagedWrite
  holdTimer : Timer
  holdLimit : Nat
  deriving DecidableEq, Repr

/-- The staging queue after a pin reset or RESET_ALL (R47). -/
def Queue.reset : Queue where
  entries := []
  arrival := 0
  held := none
  holdTimer := .stopped
  holdLimit := Config.holdLimitReset

/-! ### Group controller (Chapter 3) -/

/-- The eight group states (3.2). -/
inductive GroupState where
  | disabled
  | collecting
  | pending
  | ready
  | releasing
  | interval
  | held
  | faulted
  deriving DecidableEq, Repr

/-- What a group takes triggers from (3.1.1). -/
inductive TriggerSource where
  | channels
  | event
  deriving DecidableEq, Repr

/-- A group's mode (3.1.1). -/
inductive Mode where
  | once
  | repeating
  deriving DecidableEq, Repr

/-- A group's fault policy (3.1.1). -/
inductive FaultPolicy where
  | skip
  | halt
  deriving DecidableEq, Repr

/-- Why a trigger was missed (R58). -/
inductive MissedReason where
  | busy
  | notArmed
  deriving DecidableEq, Repr

/-- How a batch ended (3.1.1). -/
inductive BatchOutcome where
  | complete
  | completeFaults
  | empty
  | stopped
  | purged
  deriving DecidableEq, Repr

/-- Where a trigger, an event record or an EPOCH comes from (R51, R155, R129). -/
inductive Origin where
  | link
  | pin
  | host
  deriving DecidableEq, Repr

/-- A trigger's kind (R51). -/
inductive TriggerKind where
  | channel (c : Channel)
  | event (code : Byte)
  deriving DecidableEq, Repr

/-- A trigger (R51), and the batch origin it leaves in a group (R54). -/
structure Trigger where
  source : Origin
  kind : TriggerKind
  profile : Profile
  stamp : Stamp
  deriving DecidableEq, Repr

/-- A group's configuration, as SET_GROUP writes it (3.1.1); bit n of channelSet is C(n+1), of profileSet Pn (R176). -/
structure GroupConfig where
  triggerSource : TriggerSource
  channelSet : BitVec 8
  matchCode : Byte
  matchMask : Byte
  profileSet : BitVec 4
  armRequired : Bool
  delay : Nat
  mode : Mode
  repeatCount : Nat
  interval : Nat
  quota : Nat
  faultPolicy : FaultPolicy
  deriving DecidableEq, Repr

/-- A group's configuration after a pin reset or RESET_ALL (3.1.1). -/
def GroupConfig.reset : GroupConfig where
  triggerSource := .channels
  channelSet := 0
  matchCode := 0
  matchMask := 255
  profileSet := 15
  armRequired := false
  delay := 0
  mode := .once
  repeatCount := 1
  interval := 1000
  quota := 64
  faultPolicy := .halt

/-- A group record (3.1.1). The group timer is `timer`; its remaining time is the field "timer remaining" (R48). -/
structure Group where
  config : GroupConfig
  state : GroupState
  armed : Bool
  batchNumber : BitVec 16
  batchSize : Nat
  position : Nat
  repetitions : Nat
  underway : Bool
  late : Bool
  faults : Nat
  firstFault : Option Addr
  origin : Option Trigger
  firstStart : Option Stamp
  lastStart : Option Stamp
  timer : Timer
  missed : Nat
  lastMissed : Option MissedReason
  lastOutcome : Option BatchOutcome
  deriving DecidableEq, Repr

/-- A group record after a pin reset or RESET_ALL (R73). -/
def Group.reset : Group where
  config := GroupConfig.reset
  state := .disabled
  armed := false
  batchNumber := 0
  batchSize := 0
  position := 0
  repetitions := 0
  underway := false
  late := false
  faults := 0
  firstFault := none
  origin := none
  firstStart := none
  lastStart := none
  timer := .stopped
  missed := 0
  lastMissed := none
  lastOutcome := none

/-! ### Release engine and downstream arbiter (Chapter 4) -/

/-- The engine's state with what it holds in it: while RUNNING, the current group, the stopping mark and its one claim on the
port (R75). -/
inductive EnginePhase where
  | idle
  | running (current : GroupId) (stopping : Bool) (claim : Claim)
  | draining
  deriving DecidableEq, Repr

/-- The release engine: its state, and one batch tally of writes ok for each group (R88). -/
structure Engine where
  phase : EnginePhase
  tally : Vector Nat 8
  deriving DecidableEq, Repr

/-- The release engine after a pin reset (R100). -/
def Engine.reset : Engine where
  phase := .idle
  tally := Vector.replicate 8 0

/-- Whose cycle is on the port. -/
inductive PortSource where
  | engine
  | host
  deriving DecidableEq, Repr

/-- The outstanding downstream cycle: the cycle, the timer that runs for it (the downstream timer, or in RECOVERING the recovery
timer), and the D_TIMEOUT recorded with it at its grant (R94, R95). -/
structure Outstanding where
  cycle : DCycle
  timer : Timer
  recorded : Nat
  deriving DecidableEq, Repr

/-- The downstream port's state with the cycle outstanding in it (R90). -/
inductive PortState where
  | free
  | busy (source : PortSource) (o : Outstanding)
  | recovering (o : Outstanding)
  | draining (o : Outstanding)
  deriving DecidableEq, Repr

/-- The downstream arbiter: the port, the burst count, BURST_LIMIT and D_TIMEOUT (4.6). Its two requests are the engine's claim
and the host cycle's. -/
structure Arbiter where
  port : PortState
  burst : Nat
  burstLimit : Nat
  dTimeout : Nat
  deriving DecidableEq, Repr

/-- The arbiter after a pin reset (R100). -/
def Arbiter.reset : Arbiter where
  port := .free
  burst := 0
  burstLimit := Config.burstLimitReset
  dTimeout := Config.dTimeoutReset

/-! ### Link receiver (Chapter 5) -/

/-- The link states (5.3). -/
inductive LinkState where
  | down
  | acquiring
  | up
  deriving DecidableEq, Repr

/-- The last error reason (R121). -/
inductive LinkError where
  | check
  | format
  deriving DecidableEq, Repr

/-- The link receiver; in the quality history, oldest first, true is a good result (R106). -/
structure Link where
  state : LinkState
  carrier : Bool
  carrierTimer : Timer
  inFrame : Bool
  acquired : Nat
  history : List Bool
  expected : Option (BitVec 3)
  lastError : Option LinkError
  station : Byte
  localChannel : Channel
  localProfile : Profile
  deriving DecidableEq, Repr

/-- The link receiver after a pin reset or RESET_ALL, with the station code it keeps or samples (R122). -/
def Link.reset (station : Byte) : Link where
  state := .down
  carrier := false
  carrierTimer := .stopped
  inFrame := false
  acquired := 0
  history := []
  expected := none
  lastError := none
  station := station
  localChannel := 0
  localProfile := 0

/-! ### Time base (Chapter 6) -/

/-- A tick source, and a supplier of ticks (R123). -/
inductive TickSource where
  | localRef
  | linkRef
  deriving DecidableEq, Repr

/-- The last epoch record (R129). -/
structure EpochRecord where
  source : Origin
  stamp : Stamp
  deriving DecidableEq, Repr

/-- The time base. `supplier` is the reference in force by the table of R123; `tickFrom` is the one the next tick comes from,
which follows it at a tick (R124, log entry 13). -/
structure TimeBase where
  source : TickSource
  supplier : TickSource
  tickFrom : TickSource
  holdover : Bool
  counter : BitVec 48
  generation : Byte
  lastEpoch : Option EpochRecord
  deriving DecidableEq, Repr

/-- The time base after a pin reset or RESET_ALL (R132). -/
def TimeBase.reset : TimeBase where
  source := .localRef
  supplier := .localRef
  tickFrom := .localRef
  holdover := false
  counter := 0
  generation := 0
  lastEpoch := none

/-! ### Inhibit unit (Chapter 7) -/

/-- The inhibit source set (7.1). -/
structure InhibitSet where
  link : Bool
  linkLoss : Bool
  pin : Bool
  host : Bool
  deriving DecidableEq, Repr

/-- The inhibit unit: its source set and INHIBIT_ON_LINK_LOSS (7.1). -/
structure Inhibit where
  sources : InhibitSet
  onLinkLoss : Bool
  deriving DecidableEq, Repr

/-- The inhibit unit after a reset that leaves it the PIN source alone (R141). -/
def Inhibit.reset (pin : Bool) : Inhibit where
  sources := ⟨false, false, pin, false⟩
  onLinkLoss := false

/-! ### Report unit (Chapter 8) -/

/-- Why an upstream cycle was refused (1.5.1). -/
inductive RefusalReason where
  | defaultRefuse
  | overlap
  | cls
  | guardWrite
  | closed
  | groupDisabled
  | downstreamError
  | downstreamTimeout
  deriving DecidableEq, Repr

/-- The refused cycle's values that the record captures (R15). -/
structure RefusedCycle where
  word : Addr
  kind : CycleKind
  cls : CycleClass
  lanes : LaneSet
  deriving DecidableEq, Repr

/-- A captured refusal record (1.5.2). -/
structure RefusalRecord where
  cycle : RefusedCycle
  reason : RefusalReason
  window : Option WindowId
  further : Bool
  deriving DecidableEq, Repr

/-- A completion record (8.2.1). Its origin is the batch origin the cut left in the group, present in every record a reachable
state posts (log entry 17). -/
structure Completion where
  group : GroupId
  batchNumber : BitVec 16
  outcome : BatchOutcome
  origin : Option Trigger
  firstStart : Option Stamp
  endStamp : Stamp
  batchSize : Nat
  repetitions : Nat
  writesOk : Nat
  writesFaulted : Nat
  unwritten : Nat
  firstFault : Option Addr
  deriving DecidableEq, Repr

/-- An event record (R155). -/
structure EventRecord where
  code : Byte
  profile : Profile
  source : Origin
  stamp : Stamp
  deriving DecidableEq, Repr

/-- The report unit: the cause set and the mask (bit n is the n-th cause of R176), both record queues, head first, and the
refusal record. -/
structure Report where
  causes : BitVec 16
  mask : BitVec 16
  completions : List Completion
  events : List EventRecord
  refusal : Option RefusalRecord
  deriving DecidableEq, Repr

/-- The report unit after a pin reset or RESET_ALL (R161). -/
def Report.reset : Report where
  causes := 0
  mask := 0
  completions := []
  events := []
  refusal := none

/-! ### Management port (Chapter 9) -/

/-- The states of the management port (R164). -/
inductive MgmtPhase where
  | idle
  | command
  | response
  | trailing
  deriving DecidableEq, Repr

/-- The response status values (R175). -/
inductive Status where
  | done
  | empty
  | badCommand
  | badArgument
  | wrongState
  | checkError
  deriving DecidableEq, Repr

/-- A response: its status and result bytes (R167). -/
structure Reply where
  status : Status
  results : List Byte
  deriving DecidableEq, Repr

/-- Which record queue a TAKE reads (R156). -/
inductive TakeQueue where
  | completions
  | events
  deriving DecidableEq, Repr

/-- The management port: its state, the bytes of the command message received in this transaction, the bits of the byte group not yet
complete (in order of arrival, fewer than eight), the response to be sent and how many of its bytes have been sent whole, the
pending TAKE and the pending RESET_ALL (9.1), and the level of the select line (true: asserted). -/
structure Mgmt where
  phase : MgmtPhase
  command : List Byte
  bitsIn : List Bool
  response : Option Reply
  sent : Nat
  pendingTake : Option TakeQueue
  pendingReset : Bool
  select : Bool
  deriving DecidableEq, Repr

/-- The management port with no transaction, the select line being at some level (R172). -/
def Mgmt.idleAt (select : Bool) : Mgmt where
  phase := .idle
  command := []
  bitsIn := []
  response := none
  sent := 0
  pendingTake := none
  pendingReset := false
  select := select

/-! ### Pins -/

/-- The levels of the two input pins the part follows: RST (true: asserted) and INH (true: high). -/
structure Pins where
  rst : Bool
  inhHigh : Bool
  deriving DecidableEq, Repr

end Sys2Proof.Machine
end

