-- ==== Sys2Proof/Machine/State.lean ====
section
/-! DEFINITION. The whole part's state, why a step can stop, and the state after reset. -/

namespace Sys2Proof.Machine

/-- Why the machine stops. -/
inductive Fault where
  /-- Raised by UPSTREAM_CYCLE while the cycle before it is still unanswered. The scope file, Section 3: "Every statement in this
  manual about the upstream port assumes a host that behaves this way", that is, one that waits for each response. Safe: the
  manual says nothing of what the part does then. Log entry 7. -/
  | secondUpstreamCycle
  deriving DecidableEq, Repr

/-- Why a command has no meaning. -/
inductive Refusal where
  /-- Raised by exec for a command that has no meaning yet. Safe. No arm raises it. -/
  | notModelled (mnemonic : String)
  deriving DecidableEq, Repr

/-- The part's state: its blocks, its pins, the commands that wait, first in, first out, and the clock periods of the management
port that wait, each with its level of data in (log entry 29). -/
structure State where
  decoder : Decoder
  upstream : Upstream
  queue : Queue
  groups : Vector Group 8
  ready : List GroupId
  heldList : List GroupId
  engine : Engine
  arbiter : Arbiter
  link : Link
  time : TimeBase
  inhibit : Inhibit
  report : Report
  mgmt : Mgmt
  pins : Pins
  pending : List Instr
  clocks : List Bool
  deriving DecidableEq, Repr

/-- The part right after a pin reset: RST has just been released, with the straps STN all low and DPOL low, INH low and select
released (log entries 1 and 2). -/
def State.reset : State where
  decoder := ⟨Vector.replicate 16 Window.reset, .refuse, false⟩
  upstream := ⟨none, none⟩
  queue := Queue.reset
  groups := Vector.replicate 8 Group.reset
  ready := []
  heldList := []
  engine := Engine.reset
  arbiter := Arbiter.reset
  link := Link.reset 0
  time := TimeBase.reset
  inhibit := Inhibit.reset false
  report := Report.reset
  mgmt := Mgmt.idleAt false
  pins := ⟨false, false⟩
  pending := []
  clocks := []

end Sys2Proof.Machine
end

