-- ==== Sys2Proof/Machine/Flags.lean ====
section
/-! DEFINITION. The flags of the part: the sixteen causes, the mask and IRQ (8.1), and the conditions that the blocks compute from
what they hold: effective inhibit, tick supplier, occupancy, the requests at the arbiter. -/

namespace Sys2Proof.Machine

/-- The sixteen causes (8.1.1), in the order of the cause table of R176. -/
inductive Cause where
  | releaseDone
  | releaseFault
  | triggerMissed
  | queueHold
  | holdExpired
  | refusal
  | linkState
  | linkError
  | frameGap
  | inhibitChange
  | eventReceived
  | eventOverrun
  | completionOverrun
  | repeatLate
  | stopReceived
  | timebaseHoldover
  deriving DecidableEq, Repr

/-- A cause's bit in a cause set (R176). -/
def Cause.bit : Cause → Nat
  | .releaseDone => 0
  | .releaseFault => 1
  | .triggerMissed => 2
  | .queueHold => 3
  | .holdExpired => 4
  | .refusal => 5
  | .linkState => 6
  | .linkError => 7
  | .frameGap => 8
  | .inhibitChange => 9
  | .eventReceived => 10
  | .eventOverrun => 11
  | .completionOverrun => 12
  | .repeatLate => 13
  | .stopReceived => 14
  | .timebaseHoldover => 15

/-- The set of this one cause (R176). -/
def Cause.set (c : Cause) : BitVec 16 := 1#16 <<< c.bit

/-- The cause is pending (R150). -/
def State.causePending (s : State) (c : Cause) : Bool := s.report.causes.getLsbD c.bit

/-- Raising a cause: it joins the cause set, where it stays if it is already there (R150). -/
def State.raise (s : State) (c : Cause) : State :=
  { s with report := { s.report with causes := s.report.causes ||| c.set } }

/-- The IRQ output: asserted while a cause is both pending and in the mask, and never while RST is asserted (R152). -/
def State.irq (s : State) : Bool := (s.report.causes &&& s.report.mask != 0) && !s.pins.rst

/-- Effective inhibit is set while the source set is not empty (R137). -/
def InhibitSet.any (i : InhibitSet) : Bool := i.link || i.linkLoss || i.pin || i.host

/-- Effective inhibit (R137). -/
def State.inhibited (s : State) : Bool := s.inhibit.sources.any

/-- The supplier of ticks by tick source and link state (R123). -/
def supplierFor (source : TickSource) (link : LinkState) : TickSource :=
  if source = .linkRef ∧ link = .up then .linkRef else .localRef

/-- The time stamp of an event taken now (R130). -/
def State.now (s : State) : Stamp := ⟨s.time.generation, s.time.counter⟩

/-- An upstream cycle is unanswered: the held write, or the host path's cycle (1.1.1). -/
def State.upstreamBusy (s : State) : Bool := s.queue.held.isSome || s.upstream.host.isSome

/-- The engine's request waits at the arbiter (R91). -/
def State.engineWaiting (s : State) : Bool :=
  match s.engine.phase with
  | .running _ _ .waiting => true
  | _ => false

/-- The host request waits at the arbiter (R91). -/
def State.hostWaiting (s : State) : Bool :=
  match s.upstream.host with
  | some h => h.claim == .waiting
  | none => false

/-- The entry belongs to the group's batch (2.2.3). -/
def Entry.inBatch (g : GroupId) (e : Entry) : Bool := e.group == g && e.part == .batch

/-- The entry belongs to the group's collecting part (2.2.3). -/
def Entry.inCollecting (g : GroupId) (e : Entry) : Bool := e.group == g && e.part == .collecting

/-- The group's entries, in queue order (R22). -/
def State.entriesOf (s : State) (g : GroupId) : List Entry := s.queue.entries.filter (fun e => e.group == g)

/-- The group's batch, in queue order (2.2.3). -/
def State.batchOf (s : State) (g : GroupId) : List Entry := s.queue.entries.filter (Entry.inBatch g)

/-- The group's entry count (R49). -/
def State.entryCount (s : State) (g : GroupId) : Nat := s.queue.entries.countP (fun e => e.group == g)

/-- The group's batch entries queued (R49). -/
def State.batchCount (s : State) (g : GroupId) : Nat := s.queue.entries.countP (Entry.inBatch g)

/-- The group's collecting count (R49). -/
def State.collectingCount (s : State) (g : GroupId) : Nat := s.queue.entries.countP (Entry.inCollecting g)

/-- Space exists for a group: a free place in the queue, and an entry count below its quota (R24). -/
def State.spaceFor (s : State) (g : GroupId) : Bool :=
  decide (s.queue.entries.length < Config.queuePlaces) && decide (s.entryCount g < s.groups[g].config.quota)

/-- The bad count of the quality history (R106). -/
def Link.badCount (l : Link) : Nat := l.history.countP (fun good => !good)

end Sys2Proof.Machine
end

