-- ==== Sys2Proof/Machine/Operands.lean ====
section
/-! DEFINITION. The operand forms: what the argument bytes of a command mean and which of them have no meaning (R176 and the owner
rules), and how results and records are laid out in bytes (R175 to R179). -/

namespace Sys2Proof.Machine

/-! ### Lanes and words -/

/-- The word address: the address with its two low bits cleared (R1). -/
def wordAddress (a : Addr) : Addr := a &&& 0xFFFFFFFC#32

/-- The lane set is empty (R2). -/
def lanesEmpty (l : LaneSet) : Bool := !(l.l0 || l.l1 || l.l2 || l.l3)

/-- All four lanes. -/
def allLanes : LaneSet := ⟨true, true, true, true⟩

/-- Four bytes of zero (R2, R13). -/
def zeroData : WordData := ⟨0, 0, 0, 0⟩

/-- No lane carries a byte. -/
def noBytes : LaneBytes := ⟨none, none, none, none⟩

/-- The bytes of a write on its enabled lanes (R11). -/
def enabledBytes (l : LaneSet) (d : WordData) : LaneBytes :=
  ⟨if l.l0 then some d.l0 else none, if l.l1 then some d.l1 else none,
   if l.l2 then some d.l2 else none, if l.l3 then some d.l3 else none⟩

/-- All four bytes of a cycle's data. -/
def allBytes (d : WordData) : LaneBytes := ⟨some d.l0, some d.l1, some d.l2, some d.l3⟩

/-- The lanes that carry a byte. -/
def carriedLanes (b : LaneBytes) : LaneSet := ⟨b.l0.isSome, b.l1.isSome, b.l2.isSome, b.l3.isSome⟩

/-- The bytes of `new` laid over those of `old`: a lane that `new` does not carry keeps its byte (R27). -/
def overlay (new old : LaneBytes) : LaneBytes :=
  ⟨new.l0.or old.l0, new.l1.or old.l1, new.l2.or old.l2, new.l3.or old.l3⟩

/-- Each covered lane's value, and memory's byte for each uncovered one (R39). -/
def fillFrom (covered : LaneBytes) (memory : WordData) : WordData :=
  ⟨covered.l0.getD memory.l0, covered.l1.getD memory.l1, covered.l2.getD memory.l2, covered.l3.getD memory.l3⟩

/-- The four bytes, where every lane is covered (R39). -/
def fullCover (b : LaneBytes) : Option WordData :=
  match b.l0, b.l1, b.l2, b.l3 with
  | some a0, some a1, some a2, some a3 => some ⟨a0, a1, a2, a3⟩
  | _, _, _, _ => none

/-! ### Argument codes (R176) -/

/-- yes and no, set and clear. -/
def yesNoArg (b : Byte) : Option Bool :=
  match b.toNat with
  | 0 => some false
  | 1 => some true
  | _ => none

/-- A window number, 0 to 15. -/
def windowArg (b : Byte) : Option WindowId := if h : b.toNat < 16 then some ⟨b.toNat, h⟩ else none

/-- A group number, 0 to 7. -/
def groupArg (b : Byte) : Option GroupId := if h : b.toNat < 8 then some ⟨b.toNat, h⟩ else none

/-- A profile number, 0 to 3. -/
def profileArg (b : Byte) : Option Profile := if h : b.toNat < 4 then some ⟨b.toNat, h⟩ else none

/-- A channel number, 1 to 8 for C1 to C8. -/
def channelArg (b : Byte) : Option Channel :=
  if h : 1 ≤ b.toNat ∧ b.toNat ≤ 8 then some ⟨b.toNat - 1, by omega⟩ else none

/-- The default policy's code. -/
def policyArg (b : Byte) : Option Policy :=
  match b.toNat with
  | 0 => some .pass
  | 1 => some .refuse
  | _ => none

/-- A window kind's code. -/
def windowKindArg (b : Byte) : Option WindowKind :=
  match b.toNat with
  | 0 => some .pass
  | 1 => some .stage
  | 2 => some .guard
  | 3 => some .closed
  | _ => none

/-- A class filter's code. -/
def classFilterArg (b : Byte) : Option ClassFilter :=
  match b.toNat with
  | 0 => some .any
  | 1 => some .privilegedOnly
  | _ => none

/-- A read view's code. -/
def readViewArg (b : Byte) : Option ReadView :=
  match b.toNat with
  | 0 => some .memory
  | 1 => some .forward
  | _ => none

/-- A merge policy's code. -/
def mergePolicyArg (b : Byte) : Option MergePolicy :=
  match b.toNat with
  | 0 => some .keep
  | 1 => some .merge
  | _ => none

/-- A trigger source's code. -/
def triggerSourceArg (b : Byte) : Option TriggerSource :=
  match b.toNat with
  | 0 => some .channels
  | 1 => some .event
  | _ => none

/-- A mode's code. -/
def modeArg (b : Byte) : Option Mode :=
  match b.toNat with
  | 0 => some .once
  | 1 => some .repeating
  | _ => none

/-- A fault policy's code. -/
def faultPolicyArg (b : Byte) : Option FaultPolicy :=
  match b.toNat with
  | 0 => some .skip
  | 1 => some .halt
  | _ => none

/-- A tick source's code. -/
def tickSourceArg (b : Byte) : Option TickSource :=
  match b.toNat with
  | 0 => some .localRef
  | 1 => some .linkRef
  | _ => none

/-- A profile set: bits 0 to 3, and no bit above them (R176). -/
def profileSetArg (b : Byte) : Option (BitVec 4) := if b.toNat < 16 then some (b.setWidth 4) else none

/-- A window's size: one of the twenty powers of two from 4 KiB to 2 GiB (R18). -/
def sizeGood (size : BitVec 32) : Bool := (List.range 20).any (fun k => size.toNat == 2 ^ (12 + k))

/-- The seven fields of SET_WINDOW in a disabled record, or none where an argument is bad (R18). -/
def windowOfArgs (base size : BitVec 32) (kind filter group view merge : Byte) : Option Window :=
  if sizeGood size && base.toNat % size.toNat == 0 then do
    let kind ← windowKindArg kind
    let filter ← classFilterArg filter
    let group ← groupArg group
    let view ← readViewArg view
    let mergePolicy ← mergePolicyArg merge
    return ⟨false, base, size, kind, filter, group, view, mergePolicy⟩
  else none

/-- The configuration SET_GROUP supplies, or none where a value is bad: step 1 of R67, without the group number. -/
def configOfArgs (a : GroupArgs) : Option GroupConfig := do
  let triggerSource ← triggerSourceArg a.triggerSource
  let profileSet ← profileSetArg a.profileSet
  let armRequired ← yesNoArg a.armRequired
  let mode ← modeArg a.mode
  let faultPolicy ← faultPolicyArg a.faultPolicy
  if 1 ≤ a.interval.toNat ∧ 1 ≤ a.quota.toNat ∧ a.quota.toNat ≤ 512 then
    return {
      triggerSource := triggerSource
      channelSet := a.channelSet
      matchCode := a.matchCode
      matchMask := a.matchMask
      profileSet := profileSet
      armRequired := armRequired
      delay := a.delay.toNat
      mode := mode
      repeatCount := a.repeatCount.toNat
      interval := a.interval.toNat
      quota := a.quota.toNat
      faultPolicy := faultPolicy }
  else none

/-- The channel argument of SETUP and STOP: all channels, or one (5.2). -/
inductive ChannelChoice where
  | all
  | one (c : Channel)
  deriving DecidableEq, Repr

/-- The argument of a SETUP or STOP: 0 for all channels, 1 to 8 for C1 to C8, and no other (5.2). -/
def channelChoiceArg (b : Byte) : Option ChannelChoice :=
  if b = 0 then some .all else (channelArg b).map .one

/-- The kind a LOCAL_FRAME's kind byte names, or none for a code LOCAL_FRAME does not take (R119, R176). -/
def localKindArg (b : Byte) : Option FrameKind :=
  match b.toNat with
  | 0 => some .trigger
  | 1 => some .event
  | 4 => some .setup
  | 5 => some .stop
  | 6 => some .epoch
  | _ => none

/-- What a frame that has passed every test does (5.5). -/
inductive FrameAction where
  | trigger (c : Channel) (p : Profile)
  | event (code : Byte) (p : Profile)
  | inhibit
  | uninhibit
  | setup (choice : ChannelChoice) (p : Profile)
  | stop (choice : ChannelChoice) (p : Profile)
  | epoch
  deriving DecidableEq, Repr

/-- The action of a frame's fields, or none where they fail the format test (R113). -/
def frameAction (kind : FrameKind) (p : Profile) (argument : Byte) : Option FrameAction :=
  match kind with
  | .trigger => (channelArg argument).map (FrameAction.trigger · p)
  | .event => some (.event argument p)
  | .inhibit => some .inhibit
  | .uninhibit => some .uninhibit
  | .setup => (channelChoiceArg argument).map (FrameAction.setup · p)
  | .stop => (channelChoiceArg argument).map (FrameAction.stop · p)
  | .epoch => some .epoch
  | .invalid => none

/-! ### Result codes (R175, R176) -/

/-- A number in k bytes, most significant first (R176). -/
def bytesOf : (k : Nat) → Nat → List Byte
  | 0, _ => []
  | k + 1, n => BitVec.ofNat 8 (n / 256 ^ k) :: bytesOf k n

/-- yes 1, no 0 (R176). -/
def codeBool (b : Bool) : Byte := if b then 1 else 0

/-- The status byte (R175). -/
def Status.code : Status → Byte
  | .done => 0
  | .empty => 1
  | .badCommand => 2
  | .badArgument => 3
  | .wrongState => 4
  | .checkError => 5

/-- The default policy's code. -/
def Policy.code : Policy → Byte
  | .pass => 0
  | .refuse => 1

/-- A window kind's code. -/
def WindowKind.code : WindowKind → Byte
  | .pass => 0
  | .stage => 1
  | .guard => 2
  | .closed => 3

/-- A class filter's code. -/
def ClassFilter.code : ClassFilter → Byte
  | .any => 0
  | .privilegedOnly => 1

/-- A read view's code. -/
def ReadView.code : ReadView → Byte
  | .memory => 0
  | .forward => 1

/-- A merge policy's code. -/
def MergePolicy.code : MergePolicy → Byte
  | .keep => 0
  | .merge => 1

/-- A cycle kind's code. -/
def cycleKindCode : CycleKind → Byte
  | .read => 0
  | .write => 1

/-- A cycle class's code. -/
def cycleClassCode : CycleClass → Byte
  | .normal => 0
  | .privileged => 1

/-- A trigger source's code. -/
def TriggerSource.code : TriggerSource → Byte
  | .channels => 0
  | .event => 1

/-- A mode's code. -/
def Mode.code : Mode → Byte
  | .once => 0
  | .repeating => 1

/-- A fault policy's code. -/
def FaultPolicy.code : FaultPolicy → Byte
  | .skip => 0
  | .halt => 1

/-- A group state's code. -/
def GroupState.code : GroupState → Byte
  | .disabled => 0
  | .collecting => 1
  | .pending => 2
  | .ready => 3
  | .releasing => 4
  | .interval => 5
  | .held => 6
  | .faulted => 7

/-- An outcome's code. -/
def BatchOutcome.code : BatchOutcome → Byte
  | .complete => 0
  | .completeFaults => 1
  | .empty => 2
  | .stopped => 3
  | .purged => 4

/-- An origin's or record source's code. -/
def Origin.code : Origin → Byte
  | .link => 0
  | .pin => 1
  | .host => 2

/-- A trigger kind in two bytes: type 0 and a channel 1 to 8, or type 1 and an event code. -/
def TriggerKind.code : TriggerKind → List Byte
  | .channel c => [0, BitVec.ofNat 8 (c.val + 1)]
  | .event code => [1, code]

/-- A missed reason's code. -/
def MissedReason.code : MissedReason → Byte
  | .busy => 0
  | .notArmed => 1

/-- An entry part's code. -/
def EntryPart.code : EntryPart → Byte
  | .collecting => 0
  | .batch => 1

/-- A tick source's code. -/
def TickSource.code : TickSource → Byte
  | .localRef => 0
  | .linkRef => 1

/-- A link state's code. -/
def LinkState.code : LinkState → Byte
  | .down => 0
  | .acquiring => 1
  | .up => 2

/-- An engine state's code. -/
def EnginePhase.code : EnginePhase → Byte
  | .idle => 0
  | .running _ _ _ => 1
  | .draining => 2

/-- A last error reason's code. -/
def LinkError.code : LinkError → Byte
  | .check => 0
  | .format => 1

/-- A refusal reason's code. -/
def RefusalReason.code : RefusalReason → Byte
  | .defaultRefuse => 0
  | .overlap => 1
  | .cls => 2
  | .guardWrite => 3
  | .closed => 4
  | .groupDisabled => 5
  | .downstreamError => 6
  | .downstreamTimeout => 7

/-- A lane set's mask (R176). -/
def laneMask (l : LaneSet) : Byte :=
  codeBool l.l0 ||| codeBool l.l1 <<< 1 ||| codeBool l.l2 <<< 2 ||| codeBool l.l3 <<< 3

/-- An inhibit source set's mask: bit 0 LINK, bit 1 LINKLOSS, bit 2 PIN, bit 3 HOST (R176). -/
def InhibitSet.mask (i : InhibitSet) : Byte :=
  codeBool i.link ||| codeBool i.linkLoss <<< 1 ||| codeBool i.pin <<< 2 ||| codeBool i.host <<< 3

/-- A time stamp in seven bytes (R176). -/
def Stamp.bytes (t : Stamp) : List Byte := t.generation :: bytesOf 6 t.counter.toNat

/-- An optional item at its full width: its bytes, or that many zeros (R177). -/
def optBytes {α : Type} (width : Nat) (enc : α → List Byte) : Option α → List Byte
  | some a => enc a
  | none => List.replicate width 0

/-- An optional one-byte item. -/
def optByte {α : Type} (enc : α → Byte) (o : Option α) : List Byte := optBytes 1 (fun a => [enc a]) o

/-- The presence byte: bit n is set when the n-th optional item is present (R177). -/
def presence : List Bool → Byte
  | [] => 0
  | b :: bs => codeBool b ||| presence bs <<< 1

/-- The byte of a window, a group or a profile. -/
def indexByte {n : Nat} (i : Fin n) : Byte := BitVec.ofNat 8 i.val

/-- The byte of a channel, 1 to 8. -/
def channelByte (c : Channel) : Byte := BitVec.ofNat 8 (c.val + 1)

/-- An ordered list of groups in nine bytes: a count, then eight places, zeros past the count (R176). -/
def groupListBytes (l : List GroupId) : List Byte :=
  BitVec.ofNat 8 l.length :: (l.map indexByte ++ List.replicate (8 - l.length) 0)

/-- A quality history in two bytes: its count, then a mask of its bad results, oldest first (R177). -/
def historyBytes (h : List Bool) : List Byte := [BitVec.ofNat 8 h.length, presence (h.map (fun good => !good))]

/-- The four data bytes of an entry, zero for a lane outside its set (R178). -/
def laneDataBytes (b : LaneBytes) : List Byte := [b.l0.getD 0, b.l1.getD 0, b.l2.getD 0, b.l3.getD 0]

/-- The running or not running timer's remaining time (R48). -/
def Timer.remaining : Timer → Option Nat
  | .running n => some n
  | .stopped => none
  | .due => none

/-- A window record as GET_WINDOW returns it, 14 bytes (9.6.2). -/
def Window.bytes (w : Window) : List Byte :=
  codeBool w.enabled :: split4 w.base ++ split4 w.size ++
    [w.kind.code, w.filter.code, indexByte w.group, w.view.code, w.merge.code]

/-- A batch origin: source, trigger kind, profile, trigger stamp, 11 bytes (R178). -/
def Trigger.bytes (t : Trigger) : List Byte := t.source.code :: t.kind.code ++ indexByte t.profile :: t.stamp.bytes

/-- The configuration fields at offsets 1 to 18 of the SET_GROUP layout (R178). -/
def GroupConfig.bytes (c : GroupConfig) : List Byte :=
  [c.triggerSource.code, c.channelSet, c.matchCode, c.matchMask, c.profileSet.setWidth 8, codeBool c.armRequired] ++
    bytesOf 3 c.delay ++ [c.mode.code] ++ bytesOf 2 c.repeatCount ++ bytesOf 3 c.interval ++ bytesOf 2 c.quota ++
    [c.faultPolicy.code]

/-- A group record with its derived counts as GET_GROUP returns it, 74 bytes (R72, R178). -/
def State.groupBytes (s : State) (g : GroupId) : List Byte :=
  let r := s.groups[g]
  presence [r.firstFault.isSome, r.origin.isSome, r.firstStart.isSome, r.lastStart.isSome, r.timer.remaining.isSome,
    r.lastMissed.isSome, r.lastOutcome.isSome] ::
  r.config.bytes ++ [r.state.code, codeBool r.armed] ++
  bytesOf 2 r.batchNumber.toNat ++ bytesOf 2 r.batchSize ++ bytesOf 2 r.position ++ bytesOf 2 r.repetitions ++
  [codeBool r.underway, codeBool r.late] ++ bytesOf 2 r.faults ++
  optBytes 4 split4 r.firstFault ++ optBytes 11 Trigger.bytes r.origin ++
  optBytes 7 Stamp.bytes r.firstStart ++ optBytes 7 Stamp.bytes r.lastStart ++
  optBytes 3 (bytesOf 3) r.timer.remaining ++ [BitVec.ofNat 8 r.missed] ++
  optByte MissedReason.code r.lastMissed ++ optByte BatchOutcome.code r.lastOutcome ++
  bytesOf 2 (s.entryCount g) ++ bytesOf 2 (s.batchCount g) ++ bytesOf 2 (s.collectingCount g)

/-- An entry as READ_ENTRY returns it, 16 bytes (R178). -/
def Entry.toBytes (e : Entry) : List Byte :=
  indexByte e.group :: split4 e.word ++ [laneMask (carriedLanes e.bytes)] ++ laneDataBytes e.bytes ++
    [indexByte e.window, cycleClassCode e.cls, codeBool e.mergeable] ++ split2 e.arrival ++ [e.part.code]

/-- The four path settings, 6 bytes (R173). -/
def State.pathBytes (s : State) : List Byte :=
  s.decoder.policy.code :: bytesOf 2 s.queue.holdLimit ++ bytesOf 2 s.arbiter.dTimeout ++
    [BitVec.ofNat 8 s.arbiter.burstLimit]

/-- The four timing settings, 4 bytes (R174). -/
def State.timingBytes (s : State) : List Byte :=
  [s.time.source.code, channelByte s.link.localChannel, indexByte s.link.localProfile, codeBool s.inhibit.onLinkLoss]

/-- The items of GET_EPOCH, 18 bytes (R131, R178). -/
def State.epochBytes (s : State) : List Byte :=
  [presence [s.time.lastEpoch.isSome], s.time.generation] ++ bytesOf 6 s.time.counter.toNat ++
    [s.time.source.code, codeBool s.time.holdover] ++
    optBytes 8 (fun e : EpochRecord => e.source.code :: e.stamp.bytes) s.time.lastEpoch

/-- The items of GET_LINK, 12 bytes (R121, R178). The carrier item's code is a free value (log entry 9). -/
def State.linkBytes (s : State) : List Byte :=
  [presence [s.link.expected.isSome, s.link.lastError.isSome], s.link.state.code, Config.carrierCode s.link.carrier,
    BitVec.ofNat 8 s.link.acquired] ++ historyBytes s.link.history ++ [BitVec.ofNat 8 s.link.badCount] ++
    optByte (fun q : BitVec 3 => q.setWidth 8) s.link.expected ++ optByte LinkError.code s.link.lastError ++
    [s.link.station, channelByte s.link.localChannel, indexByte s.link.localProfile]

/-- The engine's current group, present in RUNNING (R75). -/
def EnginePhase.current : EnginePhase → Option GroupId
  | .idle => none
  | .running g _ _ => some g
  | .draining => none

/-- The items of GET_STATUS, 36 bytes (R160, R178). -/
def State.statusBytes (s : State) : List Byte :=
  [presence [s.link.lastError.isSome, s.engine.phase.current.isSome], s.link.state.code] ++
    optByte LinkError.code s.link.lastError ++
    [codeBool s.time.holdover, s.inhibit.sources.mask, codeBool s.inhibited] ++
    bytesOf 2 s.queue.entries.length ++ [codeBool s.queue.held.isSome, s.engine.phase.code] ++
    optByte indexByte s.engine.phase.current ++ groupListBytes s.ready ++ groupListBytes s.heldList ++
    [BitVec.ofNat 8 s.report.completions.length, BitVec.ofNat 8 s.report.events.length, codeBool s.report.refusal.isSome] ++
    split2 s.report.causes ++ split2 s.report.mask

/-- A completion record with the count of records, 47 bytes (R179). -/
def Completion.bytes (c : Completion) (count : Nat) : List Byte :=
  [presence [c.firstStart.isSome, c.firstFault.isSome], indexByte c.group] ++ split2 c.batchNumber ++ [c.outcome.code] ++
    optBytes 11 Trigger.bytes c.origin ++ optBytes 7 Stamp.bytes c.firstStart ++ c.endStamp.bytes ++
    bytesOf 2 c.batchSize ++ bytesOf 2 c.repetitions ++ bytesOf 4 c.writesOk ++ bytesOf 2 c.writesFaulted ++
    bytesOf 2 c.unwritten ++ optBytes 4 split4 c.firstFault ++ [BitVec.ofNat 8 count]

/-- An event record with the count of records, 11 bytes (R179). -/
def EventRecord.bytes (e : EventRecord) (count : Nat) : List Byte :=
  [e.code, indexByte e.profile, e.source.code] ++ e.stamp.bytes ++ [BitVec.ofNat 8 count]

/-- A captured refusal record, 11 bytes (R179). -/
def RefusalRecord.bytes (r : RefusalRecord) : List Byte :=
  presence [r.window.isSome] :: split4 r.cycle.word ++
    [cycleKindCode r.cycle.kind, cycleClassCode r.cycle.cls, laneMask r.cycle.lanes, r.reason.code] ++
    optByte indexByte r.window ++ [codeBool r.further]

/-- A response message: status, length, results and check (R167). -/
def Reply.message (r : Reply) : List Byte :=
  let body := r.status.code :: BitVec.ofNat 8 r.results.length :: r.results
  body ++ [crcBytes body]

/-- DONE with results. -/
def Reply.done (results : List Byte) : Reply := ⟨.done, results⟩

/-- DONE with no results. -/
def Reply.ok : Reply := ⟨.done, []⟩

/-- A status other than DONE: no result bytes (R167). -/
def Reply.bare (status : Status) : Reply := ⟨status, []⟩

end Sys2Proof.Machine
end

