-- ==== Sys2Proof/Machine/Ops.lean ====
section
/-! DEFINITION. The operations the commands share, each said once: the report unit's postings, the upstream response, the staging
queue, the group records and lists, the release engine and the downstream arbiter, inhibit, arming and stop, the time base. -/

namespace Sys2Proof.Machine

/-! ### Timers (R127) -/

/-- One tick: a running count falls by one, and at 0 the expiry is due (R127). -/
def Timer.tick : Timer → Timer
  | .stopped => .stopped
  | .running n => if n ≤ 1 then .due else .running (n - 1)
  | .due => .due

/-! ### Report unit (Chapter 8) -/

/-- Posting a completion record (R153). -/
def State.postCompletion (s : State) (c : Completion) : State :=
  let s := s.raise .releaseDone
  if s.report.completions.length < Config.completionPlaces then
    { s with report := { s.report with completions := s.report.completions ++ [c] } }
  else s.raise .completionOverrun

/-- Posting an event record (R155). -/
def State.postEvent (s : State) (e : EventRecord) : State :=
  if s.report.events.length < Config.eventPlaces then
    { s with report := { s.report with events := s.report.events ++ [e] } }.raise .eventReceived
  else s.raise .eventOverrun

/-! ### The upstream response -/

/-- The upstream response is driven on the U-port. -/
def State.answer (s : State) (r : UResponse) : State := { s with upstream := { s.upstream with response := some r } }

/-- The host path's cycle is over. -/
def State.clearHost (s : State) : State := { s with upstream := { s.upstream with host := none } }

/-- The refusal record after a refusal: an empty record captures it, a captured one sets further (R15). -/
def captureRefusal (old : Option RefusalRecord) (c : RefusedCycle) (reason : RefusalReason) (w : Option WindowId) :
    RefusalRecord :=
  match old with
  | none => ⟨c, reason, w, false⟩
  | some r => { r with further := true }

/-- The ERROR response of a refusal: a READ carries zero on all four lanes (R13). -/
def errorResponse (kind : CycleKind) : UResponse :=
  match kind with
  | .read => .error (some zeroData)
  | .write => .error none

/-- A refusal: ERROR upstream, REFUSAL raised, the refusal record updated (R13). -/
def State.refuse (s : State) (c : RefusedCycle) (reason : RefusalReason) (w : Option WindowId) : State :=
  let s := (s.answer (errorResponse c.kind)).raise .refusal
  { s with report := { s.report with refusal := some (captureRefusal s.report.refusal c reason w) } }

/-- The values of an upstream cycle that a refusal captures (R15). -/
def UCycle.refused (c : UCycle) : RefusedCycle := ⟨wordAddress c.addr, c.kind, c.cls, c.lanes⟩

/-- The values of a held write that a refusal captures (R34). -/
def StagedWrite.refused (w : StagedWrite) : RefusedCycle := ⟨w.word, .write, w.cls, carriedLanes w.bytes⟩

/-! ### Staging queue (Chapter 2) -/

/-- The entry a staged write becomes (R23). -/
def StagedWrite.entry (w : StagedWrite) (arrival : BitVec 16) : Entry :=
  ⟨w.group, w.word, w.bytes, w.window, w.cls, w.mergeable, arrival, .collecting⟩

/-- An append: the entry joins the tail with the next arrival number, and the cycle is answered DONE (R25, R28). -/
def State.append (s : State) (w : StagedWrite) : State :=
  { s with
    queue := { s.queue with
      entries := s.queue.entries ++ [w.entry s.queue.arrival]
      arrival := s.queue.arrival + 1 } }.answer (.done none)

/-- The entry is one that the write may merge into (R26, test 1). -/
def StagedWrite.mergesInto (w : StagedWrite) (e : Entry) : Bool :=
  w.mergeable && e.mergeable && e.inCollecting w.group && e.word == w.word

/-- The list with its first element that satisfies p replaced, or none where none does. -/
def updateFirst {α : Type} (p : α → Bool) (f : α → α) : List α → Option (List α)
  | [] => none
  | a :: l => if p a then some (f a :: l) else (updateFirst p f l).map (a :: ·)

/-- The queue with the write merged into its matching entry, or none where it has none (R26, R27). -/
def State.mergedEntries (s : State) (w : StagedWrite) : Option (List Entry) :=
  updateFirst w.mergesInto (fun e => { e with bytes := overlay w.bytes e.bytes }) s.queue.entries

/-- A staged write that finds no space: RETRY where HOLD_LIMIT is 0 (R30), else the hold begins (R31). -/
def State.noSpace (s : State) (w : StagedWrite) : State :=
  if s.queue.holdLimit = 0 then s.answer .retry
  else { s with queue := { s.queue with held := some w, holdTimer := .running s.queue.holdLimit } }.raise .queueHold

/-- A staged write is settled by merge, append, RETRY or hold (R26). -/
def State.stageWrite (s : State) (w : StagedWrite) : State :=
  match s.mergedEntries w with
  | some entries => { s with queue := { s.queue with entries := entries } }.answer (.done none)
  | none => if s.spaceFor w.group then s.append w else s.noSpace w

/-- The hold is over: no held write, and its timer cancelled. -/
def State.endHold (s : State) : State := { s with queue := { s.queue with held := none, holdTimer := .stopped } }

/-- The queue's test for the held write: where space exists for its group it is appended and answered DONE (R32). -/
def State.holdTest (s : State) : State :=
  match s.queue.held with
  | some w => if s.spaceFor w.group then s.endHold.append w else s
  | none => s

/-- The entries a removal leaves (R41). -/
def State.withoutEntries (s : State) (p : Entry → Bool) : State :=
  { s with queue := { s.queue with entries := s.queue.entries.filter (fun e => !p e) } }

/-- A removal of the entries named by p, with its one test for a held write (R41). -/
def State.removeEntries (s : State) (p : Entry → Bool) : State := (s.withoutEntries p).holdTest

/-- The removal of a ONCE entry whose write has ended: the group's oldest BATCH entry (R42, R43). -/
def State.removeOldest (s : State) (g : GroupId) : State :=
  { s with queue := { s.queue with entries := s.queue.entries.eraseP (Entry.inBatch g) } }.holdTest

/-- The next entry of a group's batch (R42). -/
def State.nextEntry (s : State) (g : GroupId) : Option Entry :=
  match s.groups[g].config.mode with
  | .once => (s.batchOf g).head?
  | .repeating => (s.batchOf g)[s.groups[g].position]?

/-- The repetition underway has ended (R42). -/
def State.repetitionEnded (s : State) (g : GroupId) : Bool :=
  match s.groups[g].config.mode with
  | .once => s.batchCount g == 0
  | .repeating => s.groups[g].position == s.groups[g].batchSize

/-- One lane of the forwarding lookup: the newest entry, from the tail, that carries the lane (R38). -/
def lookupLane (entries : List Entry) (lane : LaneBytes → Option Byte) : Option Byte :=
  entries.reverse.findSome? (fun e => lane e.bytes)

/-- The forwarding lookup of a word in a group's entries (R38). -/
def State.lookup (s : State) (g : GroupId) (word : Addr) : LaneBytes :=
  let entries := s.queue.entries.filter (fun e => e.group == g && e.word == word)
  ⟨lookupLane entries (·.l0), lookupLane entries (·.l1), lookupLane entries (·.l2), lookupLane entries (·.l3)⟩

/-! ### Group records and lists (Chapter 3) -/

/-- One group's record is changed. -/
def State.updGroup (s : State) (g : GroupId) (f : Group → Group) : State :=
  { s with groups := s.groups.set g.val (f s.groups[g]) g.isLt }

/-- The group enters a state that is in neither list. -/
def Group.enter (st : GroupState) (g : Group) : Group := { g with state := st }

/-- A group goes to READY at the ready-list tail, or with effective inhibit set to HELD at the held-list tail (R140). -/
def State.toReady (s : State) (g : GroupId) : State :=
  if s.inhibited then { s.updGroup g (Group.enter .held) with heldList := s.heldList ++ [g] }
  else { s.updGroup g (Group.enter .ready) with ready := s.ready ++ [g] }

/-- The engine's take: RELEASING; without a repetition underway it is a repetition start, which sets the stamps and in mode REPEAT
starts the interval timer (R60). -/
def Group.take (now : Stamp) (g : Group) : Group :=
  if g.underway then { g with state := .releasing }
  else
    { g with
      state := .releasing
      underway := true
      lastStart := some now
      firstStart := some (g.firstStart.getD now)
      timer := match g.config.mode with
        | .once => g.timer
        | .repeating => .running g.config.interval }

/-- The batch state cleared at a batch end, with its outcome (R62, steps 3 to 6). -/
def Group.endBatch (outcome : BatchOutcome) (g : Group) : Group :=
  { g with
    state := .collecting
    lastOutcome := some outcome
    timer := .stopped
    batchSize := 0
    position := 0
    repetitions := 0
    faults := 0
    late := false
    underway := false
    firstFault := none
    origin := none
    firstStart := none
    lastStart := none }

/-- The entries unwritten of a batch that ends now (R89). -/
def Group.unwritten (g : Group) : Nat :=
  if g.underway then g.batchSize - g.position
  else if g.repetitions = 0 then g.batchSize
  else 0

/-- The completion record of a non-empty batch that ends now (R89, R154). -/
def State.completionOf (s : State) (g : GroupId) (outcome : BatchOutcome) : Completion :=
  let r := s.groups[g]
  { group := g
    batchNumber := r.batchNumber
    outcome := outcome
    origin := r.origin
    firstStart := r.firstStart
    endStamp := s.now
    batchSize := r.batchSize
    repetitions := r.repetitions
    writesOk := s.engine.tally[g]
    writesFaulted := r.faults
    unwritten := r.unwritten
    firstFault := r.firstFault }

/-- The batch tally of a group is set (R88). -/
def State.setTally (s : State) (g : GroupId) (n : Nat) : State :=
  { s with engine := { s.engine with tally := s.engine.tally.set g.val n g.isLt } }

/-- The group leaves the ready list and the held list (R59). -/
def State.leaveLists (s : State) (g : GroupId) : State :=
  { s with ready := s.ready.filter (· != g), heldList := s.heldList.filter (· != g) }

/-- The end of a non-empty batch (R62): the record is posted with the values of this moment, the remaining BATCH entries go in
one removal, the group leaves its list and goes to COLLECTING with its batch state cleared. The removal's test for a held
write is made last: the held write is appended after the batch end. -/
def State.endBatch (s : State) (g : GroupId) (outcome : BatchOutcome) : State :=
  let s := s.postCompletion (s.completionOf g outcome)
  let s := (s.withoutEntries (Entry.inBatch g)).leaveLists g
  ((s.setTally g 0).updGroup g (Group.endBatch outcome)).holdTest

/-- The batch that reaches its end under R61 ends COMPLETE, or COMPLETE_FAULTS where a write of it faulted. -/
def Group.endOutcome (g : Group) : BatchOutcome := if g.faults = 0 then .complete else .completeFaults

/-- A repetition end counted in the group: repetitions completed advance, saturating, and none is underway (R61). -/
def Group.countRepetition (g : Group) : Group :=
  { g with repetitions := min (g.repetitions + 1) Config.countTop, underway := false }

/-- After a repetition end the batch ends: mode ONCE, or the repeat count reached (R61). -/
def Group.batchOver (g : Group) : Bool :=
  match g.config.mode with
  | .once => true
  | .repeating => decide (1 ≤ g.config.repeatCount) && g.repetitions == g.config.repeatCount

/-- A repetition end that does not end the batch: INTERVAL, or after a late one REPEAT_LATE and READY or HELD (R63). -/
def State.continueBatch (s : State) (g : GroupId) : State :=
  if s.groups[g].late then
    ((s.updGroup g (fun r => { r with position := 0, late := false })).raise .repeatLate).toReady g
  else s.updGroup g (fun r => { r with position := 0, state := .interval })

/-- The repetition end that the engine reports (R61, R63). -/
def State.endRepetition (s : State) (g : GroupId) : State :=
  let s := s.updGroup g Group.countRepetition
  if s.groups[g].batchOver then s.endBatch g s.groups[g].endOutcome
  else s.continueBatch g

/-! ### Downstream arbiter (4.6) -/

/-- The engine's state is set. -/
def State.setPhase (s : State) (p : EnginePhase) : State := { s with engine := { s.engine with phase := p } }

/-- The port's state is set. -/
def State.setPort (s : State) (p : PortState) : State := { s with arbiter := { s.arbiter with port := p } }

/-- The downstream cycle of the host path: a pass-through cycle unchanged, or the whole-word read (R3). -/
def HostCycle.downstream (h : HostCycle) : DCycle :=
  match h.route with
  | .passThrough => ⟨h.cycle.addr, h.cycle.kind, h.cycle.lanes, allBytes h.cycle.data⟩
  | .forwarding _ => ⟨wordAddress h.cycle.addr, .read, allLanes, noBytes⟩

/-- The downstream cycle of a release write (R3). -/
def Entry.downstream (e : Entry) : DCycle := ⟨e.word, .write, carriedLanes e.bytes, e.bytes⟩

/-- A grant: the port is BUSY with the cycle, its downstream timer started at D_TIMEOUT, which is recorded with it (R94). -/
def State.grantCycle (s : State) (source : PortSource) (c : DCycle) : State :=
  s.setPort (.busy source ⟨c, .running s.arbiter.dTimeout, s.arbiter.dTimeout⟩)

/-- The burst count is set (R93). -/
def State.setBurst (s : State) (n : Nat) : State := { s with arbiter := { s.arbiter with burst := n } }

/-- The host request is granted (R92, R93). -/
def State.grantHost (s : State) : State :=
  match s.upstream.host with
  | some h =>
    { (s.grantCycle .host h.downstream).setBurst 0 with
      upstream := { s.upstream with host := some { h with claim := .inFlight } } }
  | none => s

/-- The engine's request is granted: the release write of the group's next entry is in flight (R77, R93). -/
def State.grantEngine (s : State) : State :=
  match s.engine.phase with
  | .running g stopping .waiting =>
    match s.nextEntry g with
    | some e =>
      ((s.grantCycle .engine e.downstream).setBurst (min (s.arbiter.burst + 1) Config.byteTop)).setPhase
        (.running g stopping .inFlight)
    | none => s
  | _ => s

/-- The burst limit gives the port to a waiting host request (R92, step 1). -/
def State.hostPreferred (s : State) : Bool :=
  s.hostWaiting && decide (1 ≤ s.arbiter.burstLimit) && decide (s.arbiter.burstLimit ≤ s.arbiter.burst)

/-- The grant decision, made when the port is FREE (R92). -/
def State.arbitrate (s : State) : State :=
  match s.arbiter.port with
  | .free =>
    if s.hostPreferred then s.grantHost
    else if s.engineWaiting then s.grantEngine
    else if s.hostWaiting then s.grantHost
    else s
  | _ => s

/-- The idle engine takes the ready-list head, with a waiting request (R60, R76). -/
def State.takeHead (s : State) : State :=
  match s.engine.phase, s.ready with
  | .idle, g :: rest =>
    { (s.updGroup g (Group.take s.now)).setPhase (.running g false .waiting) with ready := rest }
  | _, _ => s

/-- At the end of an event: the idle engine's take, then the grant decision with the requests then present (R76, R92). -/
def State.work (s : State) : State := s.takeHead.arbitrate

/-- The host path's request is placed at the arbiter and, at a FREE port, granted at once (R91). -/
def State.requestHost (s : State) (c : UCycle) (w : Option WindowId) (r : Route) : State :=
  { s with upstream := { s.upstream with host := some ⟨c, w, r, .waiting⟩ } }.arbitrate

/-! ### The end of a downstream cycle -/

/-- What the end of a host-path cycle answers upstream: pass-through data as memory delivered it (R16), or the forwarding read's
lanes (R39). -/
def HostCycle.doneResponse (h : HostCycle) (data : WordData) : UResponse :=
  match h.route with
  | .passThrough =>
    match h.cycle.kind with
    | .read => .done (some data)
    | .write => .done none
  | .forwarding covered => .done (some (fillFrom covered data))

/-- Memory's DONE for the host path's cycle is handed to the upstream response (R16, R39). -/
def State.hostDone (s : State) (data : WordData) : State :=
  match s.upstream.host with
  | some h => s.clearHost.answer (h.doneResponse data)
  | none => s

/-- The host path's cycle failed at the port: it is refused, naming the window of its decode (R14). -/
def State.hostFailed (s : State) (reason : RefusalReason) : State :=
  match s.upstream.host with
  | some h => s.clearHost.refuse h.cycle.refused reason h.window
  | none => s

/-- The group's batch tally advances by one, saturating (R78, R88). -/
def State.countOk (s : State) (g : GroupId) : State := s.setTally g (min (s.engine.tally[g] + 1) Config.tallyTop)

/-- The entry at the position is passed: a ONCE entry leaves the queue, and the position advances (R78, R80, R87). -/
def State.passEntry (s : State) (g : GroupId) : State :=
  let s := match s.groups[g].config.mode with
    | .once => s.removeOldest g
    | .repeating => s
  s.updGroup g (fun r => { r with position := r.position + 1 })

/-- The stopping mark after a repetition end: a batch that R63 continues ends STOPPED at the same event (R82, case 1). -/
def State.stopAfterRepetition (s : State) (g : GroupId) (stopping : Bool) : State :=
  if stopping && s.groups[g].state != .collecting then s.endBatch g .stopped else s

/-- Between entries, after a release write of the current group has ended (R82). -/
def State.betweenEntries (s : State) (g : GroupId) (stopping : Bool) : State :=
  if s.repetitionEnded g then ((s.setPhase .idle).endRepetition g).stopAfterRepetition g stopping
  else if stopping then (s.setPhase .idle).endBatch g .stopped
  else if s.inhibited then
    let s := s.setPhase .idle
    { s.updGroup g (Group.enter .held) with heldList := s.heldList ++ [g] }
  else s.setPhase (.running g false .waiting)

/-- A release write of the current group is answered DONE (R78). -/
def State.writeDone (s : State) (g : GroupId) (stopping : Bool) : State :=
  ((s.countOk g).passEntry g).betweenEntries g stopping

/-- A fault counted in the group: the batch fault count, saturating, and the first fault address (R79). -/
def Group.countFault (word : Addr) (g : Group) : Group :=
  { g with faults := min (g.faults + 1) Config.countTop, firstFault := some (g.firstFault.getD word) }

/-- A release write of the current group faults (R79 to R81, and R83 for a group marked stopping). -/
def State.writeFault (s : State) (g : GroupId) (stopping : Bool) (word : Addr) : State :=
  let s := (s.raise .releaseFault).updGroup g (Group.countFault word)
  match s.groups[g].config.faultPolicy with
  | .skip => (s.passEntry g).betweenEntries g stopping
  | .halt =>
    if stopping then (s.setPhase .idle).endBatch g .stopped
    else (s.setPhase .idle).updGroup g (Group.enter .faulted)

/-- Memory's response, or its absence, as the release engine takes it. -/
inductive WriteEnd where
  | ok
  | fault
  deriving DecidableEq, Repr

/-- The end of the release write in flight is handed to the engine (R78, R79). -/
def State.engineEnd (s : State) (o : Outstanding) (e : WriteEnd) : State :=
  match s.engine.phase with
  | .running g stopping .inFlight =>
    match e with
    | .ok => s.writeDone g stopping
    | .fault => s.writeFault g stopping o.cycle.addr
  | _ => s

/-- A draining engine goes to IDLE when the port becomes FREE (R99). -/
def State.endDrain (s : State) : State :=
  match s.engine.phase with
  | .draining => s.setPhase .idle
  | _ => s

/-- Memory's response to the cycle in flight is handed to its source (R94). -/
def State.handResponse (s : State) (source : PortSource) (o : Outstanding) (r : MemResponse) : State :=
  match source, r with
  | .engine, .done _ => s.engineEnd o .ok
  | .engine, .error => s.engineEnd o .fault
  | .host, .done data => s.hostDone data
  | .host, .error => s.hostFailed .downstreamError

/-- The timeout of the cycle in flight is told to its source (R94). -/
def State.handTimeout (s : State) (source : PortSource) (o : Outstanding) : State :=
  match source with
  | .engine => s.engineEnd o .fault
  | .host => s.hostFailed .downstreamTimeout

/-- The outstanding cycle with its recovery timer started at the recorded D_TIMEOUT (R95). -/
def Outstanding.recover (o : Outstanding) : Outstanding := { o with timer := .running o.recorded }

/-! ### Triggers (3.3) -/

/-- The event code agrees with the match code on every bit of the match mask (R52). -/
def GroupConfig.matchesEvent (c : GroupConfig) (code : Byte) : Bool := (code &&& c.matchMask) == (c.matchCode &&& c.matchMask)

/-- The group matches a trigger (R52). -/
def GroupConfig.matchesTrigger (c : GroupConfig) (t : Trigger) : Bool :=
  c.profileSet.getLsbD t.profile.val &&
    match c.triggerSource, t.kind with
    | .channels, .channel ch => c.channelSet.getLsbD ch.val
    | .event, .event code => c.matchesEvent code
    | _, _ => false

/-- A missed trigger in the group's record (R58). -/
def Group.miss (reason : MissedReason) (g : Group) : Group :=
  { g with missed := min (g.missed + 1) Config.byteTop, lastMissed := some reason }

/-- A missed trigger (R58). -/
def State.missTrigger (s : State) (g : GroupId) (reason : MissedReason) : State :=
  (s.updGroup g (Group.miss reason)).raise .triggerMissed

/-- The group's record at the cut, with the size of the batch (R54). -/
def Group.cut (t : Trigger) (size : Nat) (g : Group) : Group :=
  { g with
    batchSize := size
    batchNumber := g.batchNumber + 1
    origin := some t
    armed := false
    position := 0
    repetitions := 0
    faults := 0
    late := false
    underway := false
    firstFault := none
    firstStart := none
    lastStart := none }

/-- The entry after the cut of a group: its COLLECTING entries become BATCH (R29). -/
def Entry.cut (g : GroupId) (e : Entry) : Entry := if e.inCollecting g then { e with part := .batch } else e

/-- The completion record of an empty batch (R55). -/
def State.emptyCompletion (s : State) (g : GroupId) (t : Trigger) : Completion :=
  { group := g
    batchNumber := s.groups[g].batchNumber
    outcome := .empty
    origin := some t
    firstStart := none
    endStamp := s.now
    batchSize := 0
    repetitions := 0
    writesOk := 0
    writesFaulted := 0
    unwritten := 0
    firstFault := none }

/-- The end of an empty batch at its cut (R55). -/
def State.endEmpty (s : State) (g : GroupId) (t : Trigger) : State :=
  (s.postCompletion (s.emptyCompletion g t)).updGroup g (fun r => { r with lastOutcome := some .empty, origin := none })

/-- A group with a non-empty batch leaves COLLECTING: READY or HELD with delay 0, else PENDING with the delay running (R56). -/
def State.leaveCollecting (s : State) (g : GroupId) : State :=
  if s.groups[g].config.delay = 0 then s.toReady g
  else s.updGroup g (fun r => { r with state := .pending, timer := .running r.config.delay })

/-- A taken trigger cuts the group (R54 to R56). -/
def State.cutGroup (s : State) (g : GroupId) (t : Trigger) : State :=
  let size := s.collectingCount g
  let s := { s with queue := { s.queue with entries := s.queue.entries.map (Entry.cut g) } }.updGroup g (Group.cut t size)
  if size = 0 then s.endEmpty g t else s.leaveCollecting g

/-- A group settles a trigger it matches by its state (R53). -/
def State.settleMatch (s : State) (t : Trigger) (g : GroupId) : State :=
  match s.groups[g].state with
  | .disabled => s
  | .collecting =>
    if s.groups[g].config.armRequired && !s.groups[g].armed then s.missTrigger g .notArmed else s.cutGroup g t
  | .pending => s.missTrigger g .busy
  | .ready => s.missTrigger g .busy
  | .releasing => s.missTrigger g .busy
  | .interval => s.missTrigger g .busy
  | .held => s.missTrigger g .busy
  | .faulted => s.missTrigger g .busy

/-- A group settles a trigger (R52, R53). -/
def State.settleTrigger (t : Trigger) (s : State) (g : GroupId) : State :=
  if s.groups[g].config.matchesTrigger t then s.settleMatch t g else s

/-- A trigger is offered to all eight groups as one event, in ascending order; then the engine's take and the grant (R51, R76). -/
def State.offerTrigger (s : State) (t : Trigger) : State := (groupIds.foldl (State.settleTrigger t) s).work

/-! ### Arming and STOP (7.4, 7.5) -/

/-- A SETUP or STOP with this profile and argument reaches the group (R142). -/
def GroupConfig.reached (c : GroupConfig) (choice : ChannelChoice) (p : Profile) : Bool :=
  c.profileSet.getLsbD p.val &&
    match choice with
    | .all => true
    | .one ch => c.triggerSource == .channels && c.channelSet.getLsbD ch.val

/-- An arming of the group: armed becomes yes where it requires arming and is not DISABLED (R143, R144). -/
def Group.arm (g : Group) : Group := if g.config.armRequired && g.state != .disabled then { g with armed := true } else g

/-- A SETUP (R143). -/
def State.setup (s : State) (choice : ChannelChoice) (p : Profile) : State :=
  { s with groups := s.groups.map (fun g => if g.config.reached choice p then g.arm else g) }

/-- A STOP at the running group: a waiting request is withdrawn and the batch ends; a write in flight is marked (R83). -/
def State.stopAtEngine (s : State) (g : GroupId) : State :=
  match s.engine.phase with
  | .running cur _ claim =>
    if cur = g then
      match claim with
      | .waiting => (s.setPhase .idle).endBatch g .stopped
      | .inFlight => s.setPhase (.running cur true .inFlight)
    else s
  | _ => s

/-- A group that a STOP reaches is settled by its state (R147). -/
def State.stopGroup (s : State) (g : GroupId) : State :=
  match s.groups[g].state with
  | .disabled => s
  | .collecting => s
  | .pending => s.endBatch g .stopped
  | .ready => s.endBatch g .stopped
  | .releasing => s.stopAtEngine g
  | .interval => s.endBatch g .stopped
  | .held => s.endBatch g .stopped
  | .faulted => s.endBatch g .stopped

/-- The armed flag that a STOP clears in a group it reaches, other than a DISABLED one (R146, step 2). -/
def Group.disarmBy (choice : ChannelChoice) (p : Profile) (g : Group) : Group :=
  if g.config.reached choice p && g.state != .disabled then { g with armed := false } else g

/-- A group is stopped where the STOP reaches it (R142, R146). -/
def State.stopReached (choice : ChannelChoice) (p : Profile) (s : State) (g : GroupId) : State :=
  if s.groups[g].config.reached choice p then s.stopGroup g else s

/-- A STOP (R146). The engine's take, where STOP leaves it IDLE, is made when every group is settled (log entry 8). -/
def State.stop (s : State) (choice : ChannelChoice) (p : Profile) : State :=
  let s := s.raise .stopReceived
  let s := { s with groups := s.groups.map (Group.disarmBy choice p) }
  (groupIds.foldl (State.stopReached choice p) s).work

/-! ### Inhibit (7.1, 7.2) -/

/-- Effective inhibit becoming set, at the engine: a waiting request is withdrawn and the current group goes to HELD (R84). -/
def State.inhibitEngine (s : State) : State :=
  match s.engine.phase with
  | .running g _ .waiting =>
    let s := s.setPhase .idle
    { s.updGroup g (Group.enter .held) with heldList := s.heldList ++ [g] }
  | _ => s

/-- The groups of a list enter a state (R138, R139). -/
def State.enterAll (s : State) (l : List GroupId) (st : GroupState) : State :=
  l.foldl (fun s g => s.updGroup g (Group.enter st)) s

/-- Effective inhibit becomes set: the running group first (R84), then the ready list in its order, join the held list (R138). -/
def State.inhibitSet (s : State) : State :=
  let s := s.inhibitEngine
  { s.enterAll s.ready .held with heldList := s.heldList ++ s.ready, ready := [] }

/-- Effective inhibit becomes clear: the held groups join the ready list in order, and the idle engine takes the head (R139). -/
def State.inhibitClear (s : State) : State :=
  { s.enterAll s.heldList .ready with ready := s.ready ++ s.heldList, heldList := [] }.work

/-- The source set is replaced. -/
def State.setSources (s : State) (i : InhibitSet) : State := { s with inhibit := { s.inhibit with sources := i } }

/-- One change of the inhibit source set, with effective inhibit compared before and after it (R137). -/
def State.changeSources (s : State) (i : InhibitSet) : State :=
  let t := s.setSources i
  if s.inhibited = t.inhibited then t
  else if t.inhibited then (t.raise .inhibitChange).inhibitSet
  else (t.raise .inhibitChange).inhibitClear

/-! ### Time base (Chapter 6) -/

/-- An EPOCH is taken (R129). -/
def State.takeEpoch (s : State) (source : Origin) : State :=
  { s with time := { s.time with
      lastEpoch := some ⟨source, s.now⟩
      counter := 0
      generation := s.time.generation + 1 } }

/-- The link has entered UP, at the time base: with source LINK, holdover ends (R125). -/
def State.timeLinkUp (s : State) : State :=
  match s.time.source with
  | .linkRef => { s with time := { s.time with supplier := .linkRef, holdover := false } }
  | .localRef => s

/-- The link has left UP, at the time base: with source LINK, holdover begins (R125). -/
def State.timeLinkLost (s : State) : State :=
  match s.time.source with
  | .linkRef => { s with time := { s.time with supplier := .localRef, holdover := true } }.raise .timebaseHoldover
  | .localRef => s

/-- The tick source is set by an accepted SET_TIMING (R126). -/
def State.setTickSource (s : State) (v : TickSource) : State :=
  if v = s.time.source then s
  else
    match v with
    | .localRef => { s with time := { s.time with source := .localRef, supplier := .localRef, holdover := false } }
    | .linkRef =>
      if s.link.state = .up then { s with time := { s.time with source := .linkRef, supplier := .linkRef, holdover := false } }
      else
        { s with time := { s.time with source := .linkRef, supplier := .localRef, holdover := true } }.raise
          .timebaseHoldover

/-! ### Frames and local sources (5.5, 5.6) -/

/-- An event record is posted and the event trigger offered, at one event with one stamp (R115). -/
def State.eventFrame (s : State) (source : Origin) (code : Byte) (p : Profile) : State :=
  (s.postEvent ⟨code, p, source, s.now⟩).offerTrigger ⟨source, .event code, p, s.now⟩

/-- A dispatched frame, or an accepted LOCAL_FRAME, acts on the block that owns its kind (R114 to R116, R119). -/
def State.dispatch (s : State) (source : Origin) (a : FrameAction) : State :=
  match a with
  | .trigger c p => s.offerTrigger ⟨source, .channel c, p, s.now⟩
  | .event code p => s.eventFrame source code p
  | .inhibit => s.changeSources { s.inhibit.sources with link := true }
  | .uninhibit => s.changeSources { s.inhibit.sources with link := false }
  | .setup choice p => s.setup choice p
  | .stop choice p => s.stop choice p
  | .epoch => s.takeEpoch source

/-! ### Management transactions (9.1) -/

/-- A command message is settled, the byte group of its check byte being complete: in COMMAND, what it does is done, its response is
built with no byte of it sent yet, and the port goes to RESPONSE with the message as its command bytes (R164, R166, R168; log
entry 10). In every other state of the port the bytes are not read as a command. -/
def State.settle (s : State) (i : Instr) (act : State → State × Reply) : State :=
  match s.mgmt.phase with
  | .command =>
    let r := act s
    { r.1 with mgmt := { r.1.mgmt with
        phase := .response, command := i.message, bitsIn := [], response := some r.2, sent := 0 } }
  | .idle => s
  | .response => s
  | .trailing => s

/-- A command with an argument: a value without a meaning is refused with BAD_ARGUMENT and changes nothing (R166). -/
def State.withArg {α : Type} (s : State) (arg : Option α) (act : α → State × Reply) : State × Reply :=
  match arg with
  | some a => act a
  | none => (s, .bare .badArgument)

end Sys2Proof.Machine
end

