-- ==== Sys2Proof/Machine/GroupCommands.lean ====
section
/-! DEFINITION. The management commands of the groups and of the queue's entries (Chapters 2, 3, 4 and 7). -/

namespace Sys2Proof.Machine

/-- The configuration is written and the armed flag cleared (R68). -/
def Group.configure (c : GroupConfig) (g : Group) : Group := { g with config := c, armed := false }

/-- The group may be configured: DISABLED or COLLECTING (R67, step 2). -/
def GroupState.configurable : GroupState → Bool
  | .disabled => true
  | .collecting => true
  | .pending => false
  | .ready => false
  | .releasing => false
  | .interval => false
  | .held => false
  | .faulted => false

/-- The held write is one of this group. -/
def State.holdsWriteOf (s : State) (g : GroupId) : Bool :=
  match s.queue.held with
  | some w => w.group == g
  | none => false

/-- An accepted SET_GROUP; where the quota changed and a write of this group is held, the queue tests for space (R68, R32). -/
def State.configureGroup (s : State) (g : GroupId) (c : GroupConfig) : State :=
  let t := s.updGroup g (Group.configure c)
  if s.groups[g].config.quota != c.quota && s.holdsWriteOf g then t.holdTest else t

/-- SET_GROUP (R67, R68): values, then state, then quota. -/
def execSetGroup (group : Byte) (args : GroupArgs) (s : State) : Host.Outcome State Fault Refusal :=
  .next (s.settle (.setGroup group args) fun s =>
    s.withArg (groupArg group) fun g =>
    s.withArg (configOfArgs args) fun c =>
    if !s.groups[g].state.configurable then (s, .bare .wrongState)
    else if c.quota < s.entryCount g then (s, .bare .badArgument)
    else (s.configureGroup g c, .ok))

/-- GET_GROUP (R72). -/
def execGetGroup (group : Byte) (s : State) : Host.Outcome State Fault Refusal :=
  .next (s.settle (.getGroup group) fun s => s.withArg (groupArg group) fun g => (s, .done (s.groupBytes g)))

/-- ENABLE_GROUP (R69). -/
def execEnableGroup (group : Byte) (s : State) : Host.Outcome State Fault Refusal :=
  .next (s.settle (.enableGroup group) fun s =>
    s.withArg (groupArg group) fun g =>
    if s.groups[g].state = .disabled then (s.updGroup g (Group.enter .collecting), .ok) else (s, .bare .wrongState))

/-- A held write whose group has become DISABLED is refused (R34). -/
def State.refuseHeld (s : State) (g : GroupId) : State :=
  match s.queue.held with
  | some w => if w.group = g then s.endHold.refuse w.refused .groupDisabled (some w.window) else s
  | none => s

/-- The group goes to DISABLED, its armed flag cleared (R70). -/
def Group.disable (g : Group) : Group := { g with state := .disabled, armed := false }

/-- DISABLE_GROUP (R70). -/
def execDisableGroup (group : Byte) (s : State) : Host.Outcome State Fault Refusal :=
  .next (s.settle (.disableGroup group) fun s =>
    s.withArg (groupArg group) fun g =>
    if s.groups[g].state = .collecting then ((s.updGroup g Group.disable).refuseHeld g, .ok) else (s, .bare .wrongState))

/-- A named group is armed (R144). -/
def State.armNamed (groupSet : Byte) (s : State) (g : GroupId) : State :=
  if groupSet.getLsbD g.val then s.updGroup g Group.arm else s

/-- The bit of a group in the set that ARM answers: named, and armed after the command (R144). -/
def State.armedBit (s : State) (groupSet : Byte) (g : GroupId) : Bool := groupSet.getLsbD g.val && s.groups[g].armed

/-- The set of named groups that are armed (R144). -/
def State.armedSet (s : State) (groupSet : Byte) : Byte := presence (groupIds.map (s.armedBit groupSet))

/-- ARM (R144). A group set is one byte with a bit for each of the eight groups, so it names none outside G0 to G7. -/
def execArm (groupSet : Byte) (s : State) : Host.Outcome State Fault Refusal :=
  .next (s.settle (.arm groupSet) fun s =>
    let t := groupIds.foldl (State.armNamed groupSet) s
    (t, .done [t.armedSet groupSet]))

/-- CLEAR_MISSED (R71). -/
def execClearMissed (group : Byte) (s : State) : Host.Outcome State Fault Refusal :=
  .next (s.settle (.clearMissed group) fun s =>
    s.withArg (groupArg group) fun g => (s.updGroup g (fun r => { r with missed := 0, lastMissed := none }), .ok))

/-- PURGE with scope COLLECTING (R44). -/
def State.purgeCollecting (s : State) (g : GroupId) : State × Reply :=
  (s.removeEntries (Entry.inCollecting g), .done (bytesOf 2 (s.collectingCount g)))

/-- All the group's entries go in one removal; in FAULTED the batch ends PURGED (R45). -/
def State.purgeEntries (s : State) (g : GroupId) : State :=
  if s.groups[g].state = .faulted then ((s.withoutEntries (fun e => e.group == g)).endBatch g .purged).work
  else s.removeEntries (fun e => e.group == g)

/-- PURGE with scope ALL is accepted in these states (R45). -/
def GroupState.purgeable : GroupState → Bool
  | .disabled => true
  | .collecting => true
  | .faulted => true
  | .pending => false
  | .ready => false
  | .releasing => false
  | .interval => false
  | .held => false

/-- PURGE with scope ALL (R45). -/
def State.purgeAll (s : State) (g : GroupId) : State × Reply :=
  if s.groups[g].state.purgeable then (s.purgeEntries g, .done (bytesOf 2 (s.entryCount g))) else (s, .bare .wrongState)

/-- PURGE_COLLECTING (R44): a scope with no code is refused. -/
def execPurgeCollecting (group scope : Byte) (s : State) : Host.Outcome State Fault Refusal :=
  .next (s.settle (.purgeCollecting group scope) fun s =>
    s.withArg (groupArg group) fun g => if scope = 0#8 then s.purgeCollecting g else (s, .bare .badArgument))

/-- PURGE_ALL (R45). -/
def execPurgeAll (group : Byte) (s : State) : Host.Outcome State Fault Refusal :=
  .next (s.settle (.purgeAll group) fun s => s.withArg (groupArg group) fun g => s.purgeAll g)

/-- RESUME with RETRY of a FAULTED group (R86). -/
def State.resumeRetry (s : State) (g : GroupId) : State := (s.toReady g).work

/-- RESUME with SKIP of a FAULTED group (R87). -/
def State.resumeSkip (s : State) (g : GroupId) : State :=
  let s := s.passEntry g
  (if s.repetitionEnded g then s.endRepetition g else s.toReady g).work

/-- RESUME_RETRY (R85, R86): a choice with no code is refused. -/
def execResumeRetry (group choice : Byte) (s : State) : Host.Outcome State Fault Refusal :=
  .next (s.settle (.resumeRetry group choice) fun s =>
    s.withArg (groupArg group) fun g =>
    if choice = 0#8 then
      if s.groups[g].state = .faulted then (s.resumeRetry g, .ok) else (s, .bare .wrongState)
    else (s, .bare .badArgument))

/-- RESUME_SKIP (R85, R87). -/
def execResumeSkip (group : Byte) (s : State) : Host.Outcome State Fault Refusal :=
  .next (s.settle (.resumeSkip group) fun s =>
    s.withArg (groupArg group) fun g =>
    if s.groups[g].state = .faulted then (s.resumeSkip g, .ok) else (s, .bare .wrongState))

/-- READ_ENTRY (R46): an index above 511 is refused; one at or past the entry count finds no entry. -/
def execReadEntry (group : Byte) (index : BitVec 16) (s : State) : Host.Outcome State Fault Refusal :=
  .next (s.settle (.readEntry group index) fun s =>
    s.withArg (groupArg group) fun g =>
    if index.toNat ≤ 511 then
      match (s.entriesOf g)[index.toNat]? with
      | some e => (s, .done e.toBytes)
      | none => (s, .bare .empty)
    else (s, .bare .badArgument))

end Sys2Proof.Machine
end

