-- ==== Sys2Proof/Machine/Resets.lean ====
section
/-! DEFINITION. The three kinds of reset (scope 6.7): the pins that make a pin reset, and what RESET_DATAPATH and RESET_ALL do to
every block. -/

namespace Sys2Proof.Machine

/-- The tallies of all groups are 0 (R88, R98). -/
def noTally : Vector Nat 8 := Vector.replicate 8 0

/-- An unanswered upstream cycle, held, waiting or in flight, is answered RETRY at a reset command, and is no refusal (R17, R35,
R40). -/
def State.retryUpstream (s : State) : State := if s.upstreamBusy then s.clearHost.answer .retry else s

/-- The port at a reset command: a BUSY cycle is abandoned to drain, its timer running on (R98). -/
def PortState.drain : PortState → PortState
  | .free => .free
  | .busy _ o => .draining o
  | .recovering o => .recovering o
  | .draining o => .draining o

/-- The engine's state at a reset command: DRAINING if the port is not FREE, else IDLE (R98). -/
def PortState.enginePhase : PortState → EnginePhase
  | .free => .idle
  | .busy _ _ => .draining
  | .recovering _ => .draining
  | .draining _ => .draining

/-- The engine and the arbiter at a reset command, the two limits apart (R98, R100). -/
def State.drainPort (s : State) : State :=
  { s with
    engine := ⟨s.arbiter.port.enginePhase, noTally⟩
    arbiter := { s.arbiter with port := s.arbiter.port.drain, burst := 0 } }

/-- A group record after RESET_DATAPATH (R74). -/
def Group.resetDatapath (g : Group) : Group :=
  { g with
    state := if g.state = .disabled then .disabled else .collecting
    armed := false
    batchSize := 0
    position := 0
    repetitions := 0
    underway := false
    late := false
    faults := 0
    firstFault := none
    origin := none
    firstStart := none
    lastStart := none
    timer := .stopped
    missed := 0
    lastMissed := none }

/-- RESET_DATAPATH takes effect (R170): the blocks it keeps are kept whole. -/
def State.resetDatapath (s : State) : State :=
  let s := s.retryUpstream.drainPort
  { s with
    queue := { s.queue with entries := [], held := none, holdTimer := .stopped }
    groups := s.groups.map Group.resetDatapath
    ready := []
    heldList := [] }

/-- RESET_ALL takes effect, at the release of select (R171): every block as a pin reset sets it, the straps as they were sampled,
PIN as the pin is, waiting cycles answered RETRY, and the port draining. -/
def State.resetAll (s : State) : State :=
  let t := s.retryUpstream.drainPort
  { t with
    decoder := ⟨Vector.replicate 16 Window.reset, Policy.ofStrap s.decoder.dpolLatch, s.decoder.dpolLatch⟩
    queue := Queue.reset
    groups := Vector.replicate 8 Group.reset
    ready := []
    heldList := []
    arbiter := { t.arbiter with burstLimit := Config.burstLimitReset, dTimeout := Config.dTimeoutReset }
    link := Link.reset s.link.station
    time := TimeBase.reset
    inhibit := Inhibit.reset s.inhibit.sources.pin
    report := Report.reset
    mgmt := Mgmt.idleAt s.mgmt.select }

/-- A pin reset, RST being asserted (R100, R172 and each block's reset rule): unanswered cycles and the transaction are abandoned
with no response. What the release of RST samples, the strap latch, the default policy and the station code, is kept until
then; the inhibit source set is empty until then (log entry 20). -/
def State.pinReset (s : State) : State :=
  { s with
    decoder := { s.decoder with windows := Vector.replicate 16 Window.reset }
    upstream := ⟨none, none⟩
    queue := Queue.reset
    groups := Vector.replicate 8 Group.reset
    ready := []
    heldList := []
    engine := Engine.reset
    arbiter := Arbiter.reset
    link := Link.reset s.link.station
    time := TimeBase.reset
    inhibit := Inhibit.reset false
    report := Report.reset
    mgmt := Mgmt.idleAt s.mgmt.select
    pins := { s.pins with rst := true } }

/-- The release of RST: the straps are sampled, and PIN is in the source set if INH is high (R6, R120, R135). -/
def State.releaseReset (s : State) (stn : Byte) (dpol : Bool) : State :=
  { s with
    decoder := { s.decoder with policy := Policy.ofStrap dpol, dpolLatch := dpol }
    link := { s.link with station := stn }
    inhibit := { s.inhibit with sources := { s.inhibit.sources with pin := s.pins.inhHigh } }
    pins := { s.pins with rst := false } }

end Sys2Proof.Machine
end

