-- ==== Sys2Proof/Machine/PinEvents.lean ====
section
/-! DEFINITION. The commands of the control pins: TRIG, INH and RST (R117, R135, R172). -/

namespace Sys2Proof.Machine

/-- TRIG_EDGE (R117): a PIN trigger on LOCAL_CHANNEL and LOCAL_PROFILE. The pin is not watched while RST is asserted. -/
def execTrigEdge (s : State) : Host.Outcome State Fault Refusal :=
  if s.pins.rst then .next s
  else .next (s.offerTrigger ⟨.pin, .channel s.link.localChannel, s.link.localProfile, s.now⟩)

/-- The level of INH from now on. -/
def State.setInhPin (s : State) (high : Bool) : State := { s with pins := { s.pins with inhHigh := high } }

/-- INH_CHANGE (R135): PIN is in the source set while the pin is high. While RST is asserted the pin has its level and nothing
follows it. -/
def execInhChange (high : Bool) (s : State) : Host.Outcome State Fault Refusal :=
  if s.pins.rst then .next (s.setInhPin high)
  else .next ((s.setInhPin high).changeSources { s.inhibit.sources with pin := high })

/-- RST_ASSERTED (R172): a pin reset; RST stays asserted until its release. -/
def execRstAsserted (s : State) : Host.Outcome State Fault Refusal := .next s.pinReset

/-- RST_RELEASED (R6, R120): the straps are sampled and the part starts from reset values. RST that is not asserted cannot be
released (log entry 5). -/
def execRstReleased (stn : Byte) (dpol : Bool) (s : State) : Host.Outcome State Fault Refusal :=
  if s.pins.rst then .next (s.releaseReset stn dpol) else .next s

end Sys2Proof.Machine
end

