-- ==== Sys2Proof/Machine/ReportCommands.lean ====
section
/-! DEFINITION. The management commands of the report unit (Chapter 8) and the two reset commands (9.2). -/

namespace Sys2Proof.Machine

/-- GET_STATUS (R160). -/
def execGetStatus (s : State) : Host.Outcome State Fault Refusal :=
  .next (s.settle .getStatus fun s => (s, .done s.statusBytes))

/-- SET_MASK (R152). -/
def execSetMask (causes : BitVec 16) (s : State) : Host.Outcome State Fault Refusal :=
  .next (s.settle (.setMask causes) fun s => ({ s with report := { s.report with mask := causes } }, .ok))

/-- CLEAR_CAUSES (R151): the response carries the set after the clearing. -/
def execClearCauses (causes : BitVec 16) (s : State) : Host.Outcome State Fault Refusal :=
  .next (s.settle (.clearCauses causes) fun s =>
    let left := s.report.causes &&& ~~~causes
    ({ s with report := { s.report with causes := left } }, .done (split2 left)))

/-- A TAKE is pending until its response ends (R156). -/
def State.pendTake (s : State) (q : TakeQueue) : State := { s with mgmt := { s.mgmt with pendingTake := some q } }

/-- TAKE_COMPLETION (R156). -/
def execTakeCompletion (s : State) : Host.Outcome State Fault Refusal :=
  .next (s.settle .takeCompletion fun s =>
    match s.report.completions with
    | [] => (s, .bare .empty)
    | c :: _ => (s.pendTake .completions, .done (c.bytes s.report.completions.length)))

/-- TAKE_EVENT (R156). -/
def execTakeEvent (s : State) : Host.Outcome State Fault Refusal :=
  .next (s.settle .takeEvent fun s =>
    match s.report.events with
    | [] => (s, .bare .empty)
    | e :: _ => (s.pendTake .events, .done (e.bytes s.report.events.length)))

/-- GET_REFUSAL (R158). -/
def execGetRefusal (s : State) : Host.Outcome State Fault Refusal :=
  .next (s.settle .getRefusal fun s =>
    match s.report.refusal with
    | none => (s, .bare .empty)
    | some r => (s, .done r.bytes))

/-- CLEAR_REFUSAL (R159). -/
def execClearRefusal (s : State) : Host.Outcome State Fault Refusal :=
  .next (s.settle .clearRefusal fun s => ({ s with report := { s.report with refusal := none } }, .ok))

/-- RESET_DATAPATH (R170): it executes at its acceptance. -/
def execResetDatapath (s : State) : Host.Outcome State Fault Refusal :=
  .next (s.settle .resetDatapath fun s => (s.resetDatapath, .ok))

/-- RESET_ALL (R171): DONE, and the reset pending until select is released. -/
def execResetAll (s : State) : Host.Outcome State Fault Refusal :=
  .next (s.settle .resetAll fun s => ({ s with mgmt := { s.mgmt with pendingReset := true } }, .ok))

end Sys2Proof.Machine
end

