-- ==== Sys2Proof/Machine/BusPath.lean ====
section
/-! DEFINITION. The commands of the bus path: the upstream cycle with its decode (Chapter 1) and the settling of staged writes and
forwarding reads (Chapter 2), memory's response, and the expiries of the downstream, recovery and hold timers (Chapter 4). -/

namespace Sys2Proof.Machine

/-- An enabled window contains a word address from its base up to its last word (R4). -/
def Window.contains (w : Window) (word : Addr) : Bool :=
  w.enabled && decide (w.base.toNat ≤ word.toNat) && decide (word.toNat + 4 ≤ w.base.toNat + w.size.toNat)

/-- The windows in ascending order. -/
def windowIds : List WindowId := [0, 1, 2, 3, 4, 5, 6, 7, 8, 9, 10, 11, 12, 13, 14, 15]

/-- The enabled windows that contain a word address (R4). -/
def State.matching (s : State) (word : Addr) : List WindowId :=
  windowIds.filter (fun i => s.decoder.windows[i].contains word)

/-- What the decode makes of a cycle (1.4). -/
inductive Decision where
  | refused (reason : RefusalReason) (window : Option WindowId)
  | passThrough (window : Option WindowId)
  | staged (w : StagedWrite)
  | forwarding (window : WindowId) (group : GroupId)
  deriving DecidableEq, Repr

/-- The staged write that a window makes of a cycle (R11). -/
def UCycle.staged (c : UCycle) (i : WindowId) (w : Window) : StagedWrite :=
  ⟨w.group, wordAddress c.addr, enabledBytes c.lanes c.data, i, c.cls, w.merge == .merge⟩

/-- A cycle that has passed the class test, settled by the kind of its window (R10 to R12). -/
def State.decideByKind (s : State) (c : UCycle) (i : WindowId) : Decision :=
  let w := s.decoder.windows[i]
  match w.kind, c.kind with
  | .pass, _ => .passThrough (some i)
  | .guard, .read => .passThrough (some i)
  | .guard, .write => .refused .guardWrite (some i)
  | .closed, _ => .refused .closed (some i)
  | .stage, .write =>
    if s.groups[w.group].state = .disabled then .refused .groupDisabled (some i) else .staged (c.staged i w)
  | .stage, .read =>
    match w.view with
    | .memory => .passThrough (some i)
    | .forward => .forwarding i w.group

/-- The decode of a cycle, made once at its arrival (R1, R7 to R12). -/
def State.decide (s : State) (c : UCycle) : Decision :=
  match s.matching (wordAddress c.addr) with
  | [] =>
    match s.decoder.policy with
    | .pass => .passThrough none
    | .refuse => .refused .defaultRefuse none
  | [i] =>
    if s.decoder.windows[i].filter = .privilegedOnly ∧ c.cls = .normal then .refused .cls (some i)
    else s.decideByKind c i
  | _ => .refused .overlap none

/-- The response to a cycle with no lane enabled that is not refused: DONE, a READ with zero on all four lanes (R2). -/
def emptyLaneResponse (kind : CycleKind) : UResponse :=
  match kind with
  | .read => .done (some zeroData)
  | .write => .done none

/-- A forwarding read: answered from the covered lanes where all four are, else one whole-word downstream read (R38, R39). -/
def State.forwardRead (s : State) (c : UCycle) (i : WindowId) (g : GroupId) : State :=
  let covered := s.lookup g (wordAddress c.addr)
  match fullCover covered with
  | some data => s.answer (.done (some data))
  | none => s.requestHost c (some i) (.forwarding covered)

/-- A decoded cycle is handed to the path its decode selects (R1, R2). -/
def State.routeCycle (s : State) (c : UCycle) (d : Decision) : State :=
  match d with
  | .refused reason w => s.refuse c.refused reason w
  | .passThrough w => if lanesEmpty c.lanes then s.answer (emptyLaneResponse c.kind) else s.requestHost c w .passThrough
  | .staged w => if lanesEmpty c.lanes then s.answer (emptyLaneResponse c.kind) else s.stageWrite w
  | .forwarding i g => if lanesEmpty c.lanes then s.answer (emptyLaneResponse c.kind) else s.forwardRead c i g

/-- The cycle is received: from here until its response nothing stands on the U-port. -/
def State.beginCycle (s : State) : State := { s with upstream := { s.upstream with response := none } }

/-- UPSTREAM_CYCLE (R1). A cycle that arrives while RST is asserted is not received (log entry 6); one that arrives while the
cycle before it is unanswered is outside the manual (log entry 7). -/
def execUpstreamCycle (addr : Addr) (kind : CycleKind) (cls : CycleClass) (lanes : LaneSet) (data : WordData) (s : State) :
    Host.Outcome State Fault Refusal :=
  if s.pins.rst then .next s
  else if s.upstreamBusy then .fault .secondUpstreamCycle
  else
    let c : UCycle := ⟨addr, kind, cls, lanes, data⟩
    .next (s.beginCycle.routeCycle c (s.decide c))

/-- The response is taken for the outstanding cycle (R94, R96, R99). -/
def State.takeResponse (s : State) (r : MemResponse) : State :=
  match s.arbiter.port with
  | .free => s
  | .recovering _ => s
  | .draining _ => (s.setPort .free).endDrain.work
  | .busy source o => ((s.setPort .free).handResponse source o r).work

/-- DOWNSTREAM_RESPONSE (R94, R96, R99). -/
def execDownstreamResponse (r : MemResponse) (s : State) : Host.Outcome State Fault Refusal := .next (s.takeResponse r)

/-- The expiry of the downstream timer: the cycle fails, or an abandoned cycle goes on to recovery (R94, R99). -/
def State.takeTimeout (s : State) : State :=
  match s.arbiter.port with
  | .busy source o =>
    if o.timer = .due then ((s.setPort (.recovering o.recover)).handTimeout source o).work else s
  | .draining o => if o.timer = .due then s.setPort (.recovering o.recover) else s
  | .free => s
  | .recovering _ => s

/-- DOWNSTREAM_TIMEOUT (R94, R99): it happens where the downstream timer's expiry is due (log entry 5). -/
def execDownstreamTimeout (s : State) : Host.Outcome State Fault Refusal := .next s.takeTimeout

/-- The expiry of the recovery timer (R95). -/
def State.takeRecovery (s : State) : State :=
  match s.arbiter.port with
  | .recovering o => if o.timer = .due then (s.setPort .free).endDrain.work else s
  | .free => s
  | .busy _ _ => s
  | .draining _ => s

/-- RECOVERY_EXPIRY (R95): it happens where the recovery timer's expiry is due (log entry 5). -/
def execRecoveryExpiry (s : State) : Host.Outcome State Fault Refusal := .next s.takeRecovery

/-- The expiry of the hold timer: the held write is answered RETRY and discarded (R33). -/
def State.takeHoldExpiry (s : State) : State :=
  match s.queue.held with
  | some _ => if s.queue.holdTimer = .due then (s.endHold.answer .retry).raise .holdExpired else s
  | none => s

/-- HOLD_EXPIRY (R33): it happens where the hold timer's expiry is due (log entry 5). -/
def execHoldExpiry (s : State) : Host.Outcome State Fault Refusal := .next s.takeHoldExpiry

end Sys2Proof.Machine
end

