-- ==== Sys2Proof/Machine/LinkLine.lean ====
section
/-! DEFINITION. The commands of the timing line: transitions and carrier (R102), start markers, and the settling of received
frames (Chapter 5). -/

namespace Sys2Proof.Machine

/-- The link receiver's record is changed. -/
def State.updLink (s : State) (f : Link → Link) : State := { s with link := f s.link }

/-- A transition on a line without carrier: carrier is present, its timer starts at 8, and the link enters ACQUIRING (R102,
R104). -/
def State.enterAcquiring (s : State) : State :=
  (s.updLink (fun l =>
    { l with
      state := .acquiring
      carrier := true
      carrierTimer := .running Config.carrierTicks
      acquired := 0
      history := []
      expected := none })).raise .linkState

/-- A transition seen on the line (R102). -/
def State.seeTransition (s : State) : State :=
  if s.pins.rst then s
  else if s.link.carrier then s.updLink (fun l => { l with carrierTimer := .running Config.carrierTicks })
  else s.enterAcquiring

/-- CARRIER_PRESENT: a transition on a line without carrier (R102, R104). -/
def execCarrierPresent (s : State) : Host.Outcome State Fault Refusal := .next s.seeTransition

/-- LINE_TRANSITION: a transition while carrier is present restarts the carrier timer (R102). -/
def execLineTransition (s : State) : Host.Outcome State Fault Refusal := .next s.seeTransition

/-- The receiver's record at an entry to DOWN; the last error reason and the settings are kept (R108). -/
def Link.lose (l : Link) : Link :=
  { l with
    state := .down
    carrier := false
    carrierTimer := .stopped
    inFrame := false
    acquired := 0
    history := []
    expected := none }

/-- The inhibit unit at an entry to DOWN (R134). -/
def State.inhibitLinkDown (s : State) : State :=
  if s.inhibit.onLinkLoss then s.changeSources { s.inhibit.sources with linkLoss := true } else s

/-- The inhibit unit at an entry to UP (R134). -/
def State.inhibitLinkUp (s : State) : State := s.changeSources { s.inhibit.sources with linkLoss := false }

/-- The entry of the link to DOWN, with its signals (R108, R109). -/
def State.enterDown (s : State) : State :=
  let was := s.link.state
  let s := (s.updLink Link.lose).raise .linkState
  let s := if was = .up then s.timeLinkLost else s
  s.inhibitLinkDown

/-- The expiry of the carrier timer (R102). -/
def State.takeCarrierLoss (s : State) : State := if s.link.carrier && s.link.carrierTimer == .due then s.enterDown else s

/-- CARRIER_LOSS (R102, R108): it happens where the carrier timer's expiry is due (log entry 5). -/
def execCarrierLoss (s : State) : Host.Outcome State Fault Refusal := .next s.takeCarrierLoss

/-- A check result at the newest end of the quality history, which holds eight (R106). -/
def Link.record (good : Bool) (l : Link) : Link :=
  let h := l.history ++ [good]
  { l with history := h.drop (h.length - Config.historyPlaces) }

/-- LINK_ERROR with its reason (R105, R110, R113). -/
def State.linkFault (s : State) (reason : LinkError) : State :=
  (s.updLink (fun l => { l with lastError := some reason })).raise .linkError

/-- The entry of the link to UP, with its signals (R105, R109). -/
def State.enterUp (s : State) : State :=
  let s := (s.updLink (fun l =>
    { l with
      state := .up
      acquired := 0
      history := List.replicate Config.acquireRun true
      expected := none })).raise .linkState
  s.timeLinkUp.inhibitLinkUp

/-- The fall from UP back to ACQUIRING, with its signal (R107, R109). -/
def State.fallBack (s : State) : State :=
  ((s.updLink (fun l => { l with state := .acquiring, acquired := 0, expected := none })).raise .linkState).timeLinkLost

/-- A frame received while the link is ACQUIRING (R105). -/
def State.frameAcquiring (s : State) (good : Bool) : State :=
  let s := s.updLink (Link.record good)
  if good then
    let s := s.updLink (fun l => { l with acquired := l.acquired + 1 })
    if Config.acquireRun ≤ s.link.acquired then s.enterUp else s
  else (s.updLink (fun l => { l with acquired := 0 })).linkFault .check

/-- The sequence test (R111). -/
def State.sequenceTest (s : State) (q : BitVec 3) : State :=
  let t := s.updLink (fun l => { l with expected := some (q + 1) })
  match s.link.expected with
  | none => t
  | some e => if e = q then t else t.raise .frameGap

/-- The station filter (R112). -/
def Link.passesStation (l : Link) (station : Byte) : Bool := station == l.station || station == 255#8

/-- The format test and the dispatch (R113 to R116). -/
def State.formatAndDispatch (s : State) (f : FrameFields) : State :=
  match frameAction f.kind f.profile f.argument with
  | some a => s.dispatch .link a
  | none => s.linkFault .format

/-- A frame with a good check received in UP (R110, steps 2 to 5). -/
def State.frameGood (s : State) (f : FrameFields) : State :=
  let s := (s.updLink (Link.record true)).sequenceTest f.sequence
  if s.link.passesStation f.station then s.formatAndDispatch f else s

/-- A frame with a bad check received in UP (R110, step 1, and R107). -/
def State.frameBad (s : State) : State :=
  let s := (s.updLink (Link.record false)).linkFault .check
  if Config.fallbackBad ≤ s.link.badCount then s.fallBack else s

/-- A received frame is settled by the link state (R101, R105, R110). -/
def State.settleFrame (s : State) (f : LinkFrame) : State :=
  match s.link.state with
  | .down => s
  | .acquiring => s.frameAcquiring f.checkGood
  | .up =>
    match f with
    | .whole bits => if f.checkGood then s.frameGood (FrameFields.ofBits bits) else s.frameBad
    | .truncated => s.frameBad

/-- The frame in progress is received (R101). -/
def State.receiveFrame (s : State) (f : LinkFrame) : State :=
  if s.link.inFrame then (s.updLink (fun l => { l with inFrame := false })).settleFrame f else s

/-- FRAME_RECEIVED (R101): there is a frame to receive where a start marker has begun one (log entry 19). -/
def execFrameReceived (f : LinkFrame) (s : State) : Host.Outcome State Fault Refusal := .next (s.receiveFrame f)

/-- START_MARKER (R101): a frame in progress is truncated at the marker's first cell, and a new frame begins. -/
def execStartMarker (s : State) : Host.Outcome State Fault Refusal :=
  if s.link.carrier then .next ((s.receiveFrame .truncated).updLink (fun l => { l with inFrame := true }))
  else .next s

end Sys2Proof.Machine
end

