-- ==== Sys2Proof/Machine/Timers.lean ====
section
/-! DEFINITION. The expiries of the group timers (Chapter 3) and the tick of the time base (Chapter 6). -/

namespace Sys2Proof.Machine

/-- The group timer stops. -/
def Group.stopTimer (g : Group) : Group := { g with timer := .stopped }

/-- The expiry of a group's delay in PENDING (R57). -/
def State.takeDelay (s : State) (g : GroupId) : State :=
  if s.groups[g].timer = .due ∧ s.groups[g].state = .pending then ((s.updGroup g Group.stopTimer).toReady g).work else s

/-- DELAY_EXPIRY (R57): it happens where the delay's expiry is due (log entry 5). -/
def execDelayExpiry (g : GroupId) (s : State) : Host.Outcome State Fault Refusal := .next (s.takeDelay g)

/-- The expiry of a group's interval in INTERVAL (R64). -/
def State.takeInterval (s : State) (g : GroupId) : State :=
  if s.groups[g].timer = .due ∧ s.groups[g].state = .interval then ((s.updGroup g Group.stopTimer).toReady g).work else s

/-- INTERVAL_EXPIRY (R64): it happens where the interval's expiry is due in INTERVAL (log entry 5). -/
def execIntervalExpiry (g : GroupId) (s : State) : Host.Outcome State Fault Refusal := .next (s.takeInterval g)

/-- The states in which an expiry makes a group late (R65). -/
def GroupState.canBeLate : GroupState → Bool
  | .ready => true
  | .releasing => true
  | .held => true
  | .faulted => true
  | .disabled => false
  | .collecting => false
  | .pending => false
  | .interval => false

/-- The expiry of a group's interval while a repetition is underway (R65). -/
def State.takeLate (s : State) (g : GroupId) : State :=
  if s.groups[g].timer = .due ∧ s.groups[g].underway = true ∧ s.groups[g].state.canBeLate = true then
    s.updGroup g (fun r => { r with late := true, timer := .stopped })
  else s

/-- LATE (R65): it happens where the interval's expiry is due with a repetition underway (log entry 5). -/
def execLate (g : GroupId) (s : State) : Host.Outcome State Fault Refusal := .next (s.takeLate g)

/-- A group takes whichever expiry of its timer is due: the state tells which (R57, R64, R65). -/
def State.takeGroupExpiry (s : State) (g : GroupId) : State := ((s.takeDelay g).takeInterval g).takeLate g

/-- Every expiry that the tick before made due and that no command has taken is taken now, before time goes on: an expiry
belongs to the tick that ends its count (R127). The order among them, where the manual gives any, is log entry 4. -/
def State.takeDueExpiries (s : State) : State :=
  (groupIds.foldl State.takeGroupExpiry s.takeTimeout.takeRecovery.takeHoldExpiry).takeCarrierLoss

/-- The port's timer takes a tick. -/
def PortState.tick : PortState → PortState
  | .free => .free
  | .busy source o => .busy source { o with timer := o.timer.tick }
  | .recovering o => .recovering { o with timer := o.timer.tick }
  | .draining o => .draining { o with timer := o.timer.tick }

/-- The tick is delivered to every timer and to the epoch counter; a change of supplier is taken at it (R123, R124, R127,
R128). -/
def State.countTick (s : State) : State :=
  { s with
    queue := { s.queue with holdTimer := s.queue.holdTimer.tick }
    groups := s.groups.map (fun g => { g with timer := g.timer.tick })
    arbiter := { s.arbiter with port := s.arbiter.port.tick }
    link := { s.link with carrierTimer := s.link.carrierTimer.tick }
    time := { s.time with counter := s.time.counter + 1, tickFrom := s.time.supplier } }

/-- TICK (R123): one microsecond. While RST is asserted the part counts nothing (R132, log entry 6). -/
def execTick (s : State) : Host.Outcome State Fault Refusal := if s.pins.rst then .next s else .next s.takeDueExpiries.countTick

end Sys2Proof.Machine
end

