-- ==== Sys2Proof/Machine/TimingCommands.lean ====
section
/-! DEFINITION. The management commands of the timing settings, local frames, host inhibit and the time base (Chapters 5 to 7,
Section 9.3). -/

namespace Sys2Proof.Machine

/-- INHIBIT_ON_LINK_LOSS is written: from set to clear it removes LINKLOSS (R134). -/
def State.setOnLinkLoss (s : State) (v : Bool) : State :=
  let t := { s with inhibit := { s.inhibit with onLinkLoss := v } }
  if s.inhibit.onLinkLoss && !v then t.changeSources { t.inhibit.sources with linkLoss := false } else t

/-- LOCAL_CHANNEL and LOCAL_PROFILE are written (R118). -/
def State.setLocal (s : State) (c : Channel) (p : Profile) : State :=
  { s with link := { s.link with localChannel := c, localProfile := p } }

/-- SET_TIMING (R174): all four values or none. -/
def execSetTiming (source channel profile onLinkLoss : Byte) (s : State) : Host.Outcome State Fault Refusal :=
  .next (s.settle (.setTiming source channel profile onLinkLoss) fun s =>
    s.withArg (tickSourceArg source) fun src =>
    s.withArg (channelArg channel) fun c =>
    s.withArg (profileArg profile) fun p =>
    s.withArg (yesNoArg onLinkLoss) fun v =>
    (((s.setTickSource src).setLocal c p).setOnLinkLoss v, .ok))

/-- GET_TIMING (R174). -/
def execGetTiming (s : State) : Host.Outcome State Fault Refusal :=
  .next (s.settle .getTiming fun s => (s, .done s.timingBytes))

/-- LOCAL_FRAME (R119): refused by its kind, profile or argument, else dispatched with source HOST. -/
def State.localFrame (s : State) (kind profile argument : Byte) : State × Reply :=
  s.withArg (localKindArg kind) fun k =>
  s.withArg (profileArg profile) fun p =>
  s.withArg (frameAction k p argument) fun a =>
  (s.dispatch .host a, .ok)

/-- LOCAL_FRAME_TRIGGER (R119). -/
def execLocalFrameTrigger (kind profile argument : Byte) (s : State) : Host.Outcome State Fault Refusal :=
  .next (s.settle (.localFrameTrigger kind profile argument) fun s => s.localFrame kind profile argument)

/-- LOCAL_FRAME_EVENT (R119). -/
def execLocalFrameEvent (profile argument : Byte) (s : State) : Host.Outcome State Fault Refusal :=
  .next (s.settle (.localFrameEvent profile argument) fun s => s.localFrame 1 profile argument)

/-- LOCAL_FRAME_SETUP (R119). -/
def execLocalFrameSetup (profile argument : Byte) (s : State) : Host.Outcome State Fault Refusal :=
  .next (s.settle (.localFrameSetup profile argument) fun s => s.localFrame 4 profile argument)

/-- LOCAL_FRAME_STOP (R119). -/
def execLocalFrameStop (profile argument : Byte) (s : State) : Host.Outcome State Fault Refusal :=
  .next (s.settle (.localFrameStop profile argument) fun s => s.localFrame 5 profile argument)

/-- LOCAL_FRAME_EPOCH (R119). -/
def execLocalFrameEpoch (profile argument : Byte) (s : State) : Host.Outcome State Fault Refusal :=
  .next (s.settle (.localFrameEpoch profile argument) fun s => s.localFrame 6 profile argument)

/-- SET_HOST_INHIBIT (R136). -/
def execSetHostInhibit (value : Byte) (s : State) : Host.Outcome State Fault Refusal :=
  .next (s.settle (.setHostInhibit value) fun s =>
    s.withArg (yesNoArg value) fun v => (s.changeSources { s.inhibit.sources with host := v }, .ok))

/-- GET_EPOCH (R131). -/
def execGetEpoch (s : State) : Host.Outcome State Fault Refusal :=
  .next (s.settle .getEpoch fun s => (s, .done s.epochBytes))

/-- GET_LINK (R121). -/
def execGetLink (s : State) : Host.Outcome State Fault Refusal :=
  .next (s.settle .getLink fun s => (s, .done s.linkBytes))

end Sys2Proof.Machine
end

