-- ==== Sys2Proof/Machine/Transaction.lean ====
section
/-! DEFINITION. The commands that make a management transaction, apart from the command messages: select, the end of the
response, and the two messages that execute nothing (9.1). -/

namespace Sys2Proof.Machine

/-- The port in COMMAND with no command byte stored (R164). -/
def Mgmt.begin (m : Mgmt) : Mgmt :=
  { m with phase := .command, command := [], bitsIn := [], response := none, sent := 0, select := true }

/-- SELECT_ASSERTED (R164): a transaction begins. Under RST only the line's level changes, and the transaction begins at the next
assertion after a release (R172). A line already asserted cannot be asserted (log entry 5). -/
def execSelectAsserted (s : State) : Host.Outcome State Fault Refusal :=
  if s.mgmt.select then .next s
  else if s.pins.rst then .next { s with mgmt := { s.mgmt with select := true } }
  else .next { s with mgmt := s.mgmt.begin }

/-- The transaction is over: an incomplete byte and a command not settled are discarded, a response not sent whole is cut short, a
pending TAKE leaves its record (R157, R163, R169). -/
def State.endTransaction (s : State) : State := { s with mgmt := Mgmt.idleAt false }

/-- SELECT_RELEASED (R169): a pending RESET_ALL takes effect now (R171). -/
def execSelectReleased (s : State) : Host.Outcome State Fault Refusal :=
  if s.mgmt.pendingReset then .next s.endTransaction.resetAll else .next s.endTransaction

/-- The head record of a TAKE's queue is removed (R157). -/
def Report.removeHead (r : Report) : TakeQueue → Report
  | .completions => { r with completions := r.completions.tail }
  | .events => { r with events := r.events.tail }

/-- A pending TAKE ends with its removal (R157). -/
def State.completeTake (s : State) : State :=
  match s.mgmt.pendingTake with
  | some q => { s with report := s.report.removeHead q }
  | none => s

/-- RESPONSE_SENT (R157, R164): the byte group of the response's check byte is complete, and from RESPONSE the port goes to TRAILING. In
the other states no response is being sent. -/
def execResponseSent (s : State) : Host.Outcome State Fault Refusal :=
  match s.mgmt.phase with
  | .response =>
    .next { s.completeTake with mgmt := { s.mgmt with
        phase := .trailing, bitsIn := [], response := none, sent := 0, pendingTake := none } }
  | .idle => .next s
  | .command => .next s
  | .trailing => .next s

/-- CHECK_ERROR (R166, test 1): answered, not accepted, nothing executed. -/
def execCheckError (msg : List Byte) (s : State) : Host.Outcome State Fault Refusal :=
  .next (s.settle (.checkError msg) fun s => (s, .bare .checkError))

/-- BAD_COMMAND (R166, test 2): accepted, nothing executed. -/
def execBadCommand (msg : List Byte) (s : State) : Host.Outcome State Fault Refusal :=
  .next (s.settle (.badCommand msg) fun s => (s, .bare .badCommand))

end Sys2Proof.Machine
end

