-- ==== Sys2Proof/Machine/WindowCommands.lean ====
section
/-! DEFINITION. The management commands of the window table and the path settings (Chapter 1, Section 9.3). -/

namespace Sys2Proof.Machine

/-- A window record is replaced. -/
def State.setWindowRecord (s : State) (i : WindowId) (w : Window) : State :=
  { s with decoder := { s.decoder with windows := s.decoder.windows.set i.val w i.isLt } }

/-- SET_WINDOW (R18): arguments, then the window's state, then the seven fields. -/
def execSetWindow (window : Byte) (base size : BitVec 32) (kind filter group view merge : Byte) (s : State) :
    Host.Outcome State Fault Refusal :=
  .next (s.settle (.setWindow window base size kind filter group view merge) fun s =>
    s.withArg (windowArg window) fun i =>
    s.withArg (windowOfArgs base size kind filter group view merge) fun w =>
    if s.decoder.windows[i].enabled then (s, .bare .wrongState) else (s.setWindowRecord i w, .ok))

/-- SET_WINDOW_ENABLE (R19). -/
def execSetWindowEnable (window value : Byte) (s : State) : Host.Outcome State Fault Refusal :=
  .next (s.settle (.setWindowEnable window value) fun s =>
    s.withArg (windowArg window) fun i =>
    s.withArg (yesNoArg value) fun v =>
    (s.setWindowRecord i { s.decoder.windows[i] with enabled := v }, .ok))

/-- GET_WINDOW (R21). -/
def execGetWindow (window : Byte) (s : State) : Host.Outcome State Fault Refusal :=
  .next (s.settle (.getWindow window) fun s =>
    s.withArg (windowArg window) fun i => (s, .done s.decoder.windows[i].bytes))

/-- SET_PATH (R173): all four values or none. HOLD_LIMIT and BURST_LIMIT have no value out of range on the wire. -/
def execSetPath (policy : Byte) (holdLimit dTimeout : BitVec 16) (burstLimit : Byte) (s : State) :
    Host.Outcome State Fault Refusal :=
  .next (s.settle (.setPath policy holdLimit dTimeout burstLimit) fun s =>
    s.withArg (policyArg policy) fun p =>
    if 1 ≤ dTimeout.toNat ∧ dTimeout.toNat ≤ 4095 then
      ({ s with
          decoder := { s.decoder with policy := p }
          queue := { s.queue with holdLimit := holdLimit.toNat }
          arbiter := { s.arbiter with dTimeout := dTimeout.toNat, burstLimit := burstLimit.toNat } }, .ok)
    else (s, .bare .badArgument))

/-- GET_PATH (R173). -/
def execGetPath (s : State) : Host.Outcome State Fault Refusal :=
  .next (s.settle .getPath fun s => (s, .done s.pathBytes))

end Sys2Proof.Machine
end

