-- ==== Sys2Proof/Machine/Dispatch.lean ====
section
/-! DEFINITION. One arm for each command. -/

namespace Sys2Proof.Machine

def exec (i : Instr) (s : State) : Host.Outcome State Fault Refusal :=
  match i with
  | .upstreamCycle addr kind cls lanes data => Sys2Proof.Machine.execUpstreamCycle addr kind cls lanes data s
  | .downstreamResponse r => Sys2Proof.Machine.execDownstreamResponse r s
  | .downstreamTimeout => Sys2Proof.Machine.execDownstreamTimeout s
  | .recoveryExpiry => Sys2Proof.Machine.execRecoveryExpiry s
  | .holdExpiry => Sys2Proof.Machine.execHoldExpiry s
  | .delayExpiry g => Sys2Proof.Machine.execDelayExpiry g s
  | .intervalExpiry g => Sys2Proof.Machine.execIntervalExpiry g s
  | .late g => Sys2Proof.Machine.execLate g s
  | .tick => Sys2Proof.Machine.execTick s
  | .carrierPresent => Sys2Proof.Machine.execCarrierPresent s
  | .carrierLoss => Sys2Proof.Machine.execCarrierLoss s
  | .frameReceived f => Sys2Proof.Machine.execFrameReceived f s
  | .trigEdge => Sys2Proof.Machine.execTrigEdge s
  | .inhChange high => Sys2Proof.Machine.execInhChange high s
  | .rstAsserted => Sys2Proof.Machine.execRstAsserted s
  | .rstReleased stn dpol => Sys2Proof.Machine.execRstReleased stn dpol s
  | .selectAsserted => Sys2Proof.Machine.execSelectAsserted s
  | .selectReleased => Sys2Proof.Machine.execSelectReleased s
  | .responseSent => Sys2Proof.Machine.execResponseSent s
  | .checkError msg => Sys2Proof.Machine.execCheckError msg s
  | .badCommand msg => Sys2Proof.Machine.execBadCommand msg s
  | .setWindow window base size kind filter group view merge => Sys2Proof.Machine.execSetWindow window base size kind filter group view merge s
  | .setWindowEnable window value => Sys2Proof.Machine.execSetWindowEnable window value s
  | .getWindow window => Sys2Proof.Machine.execGetWindow window s
  | .setPath policy holdLimit dTimeout burstLimit => Sys2Proof.Machine.execSetPath policy holdLimit dTimeout burstLimit s
  | .getPath => Sys2Proof.Machine.execGetPath s
  | .setGroup group args => Sys2Proof.Machine.execSetGroup group args s
  | .getGroup group => Sys2Proof.Machine.execGetGroup group s
  | .enableGroup group => Sys2Proof.Machine.execEnableGroup group s
  | .disableGroup group => Sys2Proof.Machine.execDisableGroup group s
  | .arm groupSet => Sys2Proof.Machine.execArm groupSet s
  | .clearMissed group => Sys2Proof.Machine.execClearMissed group s
  | .purgeCollecting group scope => Sys2Proof.Machine.execPurgeCollecting group scope s
  | .purgeAll group => Sys2Proof.Machine.execPurgeAll group s
  | .resumeRetry group choice => Sys2Proof.Machine.execResumeRetry group choice s
  | .resumeSkip group => Sys2Proof.Machine.execResumeSkip group s
  | .readEntry group index => Sys2Proof.Machine.execReadEntry group index s
  | .setTiming source channel profile onLinkLoss => Sys2Proof.Machine.execSetTiming source channel profile onLinkLoss s
  | .getTiming => Sys2Proof.Machine.execGetTiming s
  | .localFrameTrigger kind profile argument => Sys2Proof.Machine.execLocalFrameTrigger kind profile argument s
  | .localFrameEvent profile argument => Sys2Proof.Machine.execLocalFrameEvent profile argument s
  | .localFrameSetup profile argument => Sys2Proof.Machine.execLocalFrameSetup profile argument s
  | .localFrameStop profile argument => Sys2Proof.Machine.execLocalFrameStop profile argument s
  | .localFrameEpoch profile argument => Sys2Proof.Machine.execLocalFrameEpoch profile argument s
  | .setHostInhibit value => Sys2Proof.Machine.execSetHostInhibit value s
  | .getEpoch => Sys2Proof.Machine.execGetEpoch s
  | .getLink => Sys2Proof.Machine.execGetLink s
  | .getStatus => Sys2Proof.Machine.execGetStatus s
  | .setMask causes => Sys2Proof.Machine.execSetMask causes s
  | .clearCauses causes => Sys2Proof.Machine.execClearCauses causes s
  | .takeCompletion => Sys2Proof.Machine.execTakeCompletion s
  | .takeEvent => Sys2Proof.Machine.execTakeEvent s
  | .getRefusal => Sys2Proof.Machine.execGetRefusal s
  | .clearRefusal => Sys2Proof.Machine.execClearRefusal s
  | .resetDatapath => Sys2Proof.Machine.execResetDatapath s
  | .resetAll => Sys2Proof.Machine.execResetAll s
  | .lineTransition => Sys2Proof.Machine.execLineTransition s
  | .startMarker => Sys2Proof.Machine.execStartMarker s

end Sys2Proof.Machine
end

