-- ==== Sys2Proof/Machine/Wire.lean ====
section
/-! DEFINITION. The four wires of the management port, bit by bit (R163, R164): what data out carries, and what one clock period does.
A command message clocked in whole is executed by exec as the row it is settled as. -/

namespace Sys2Proof.Machine

/-- A byte from its eight bits, most significant first (R163). -/
def byteOf (bits : List Bool) : Byte := BitVec.ofNat 8 (bits.foldl (fun n b => 2 * n + b.toNat) 0)

/-- The bytes of the response to be sent: status, length, results, check (R167). -/
def Mgmt.responseBytes (m : Mgmt) : List Byte :=
  match m.response with
  | some r => r.message
  | none => []

/-- The byte sent in the byte group underway, none where data out is undriven: the table of R164. -/
def Mgmt.byteSent (m : Mgmt) : Option Byte :=
  match m.phase with
  | .idle => none
  | .command => some Config.filler
  | .response => some (m.responseBytes[m.sent]?.getD Config.filler)
  | .trailing => some Config.filler

/-- The level of data out, where the host samples it at the next rising clock edge; none while it is undriven, as it is with select
released and in IDLE (R163, R164, R172). -/
def State.dataOut (s : State) : Option Bool :=
  if s.mgmt.select then s.mgmt.byteSent.map (fun b => b.getMsbD s.mgmt.bitsIn.length) else none

/-- The byte group is complete, and the next one begins (R163). -/
def State.endGroup (s : State) : State := { s with mgmt := { s.mgmt with bitsIn := [] } }

/-- A byte is stored as the next command byte (R164, R165). -/
def State.storeByte (s : State) (b : Byte) : State :=
  { s.endGroup with mgmt := { s.endGroup.mgmt with command := s.mgmt.command ++ [b] } }

/-- A byte of the response has been sent whole (R163). -/
def State.countSent (s : State) : State :=
  { s.endGroup with mgmt := { s.endGroup.mgmt with sent := s.mgmt.sent + 1 } }

/-- A byte is received in COMMAND: as the check byte it completes the message, which is settled as its row; else it is stored (R165,
R166). -/
def State.commandByte (s : State) (b : Byte) : Host.Outcome State Fault Refusal :=
  match Instr.ofMessage (s.mgmt.command ++ [b]) with
  | some i => exec i s
  | none => .next (s.storeByte b)

/-- A byte is sent in RESPONSE: the check byte ends the response, which is the row RESPONSE_SENT (R164, R167). -/
def State.responseByte (s : State) : Host.Outcome State Fault Refusal :=
  if s.mgmt.sent + 1 < s.mgmt.responseBytes.length then .next s.countSent else exec .responseSent s

/-- A byte group is complete with this byte received, by the state of the port (R164). -/
def State.byteDone (s : State) (b : Byte) : Host.Outcome State Fault Refusal :=
  match s.mgmt.phase with
  | .idle => .next s
  | .command => s.commandByte b
  | .response => s.responseByte
  | .trailing => .next s.endGroup

/-- One more bit of the byte group underway: the eighth completes it (R163). -/
def State.bitReceived (s : State) (bit : Bool) : Host.Outcome State Fault Refusal :=
  if s.mgmt.bitsIn.length + 1 < Config.groupBits then
    .next { s with mgmt := { s.mgmt with bitsIn := s.mgmt.bitsIn ++ [bit] } }
  else s.byteDone (byteOf (s.mgmt.bitsIn ++ [bit]))

/-- One clock period, data in being at this level at its rising edge (R163). While select is released it has no effect, and none in
IDLE with select asserted, after a release of RST (R172). -/
def State.clockPeriod (s : State) (bit : Bool) : Host.Outcome State Fault Refusal :=
  if s.mgmt.select then
    match s.mgmt.phase with
    | .idle => .next s
    | .command => s.bitReceived bit
    | .response => s.bitReceived bit
    | .trailing => s.bitReceived bit
  else .next s

/-- A step on an empty queue: the clock period that waits is taken, and where none waits nothing has happened at the ports and the
block idles (log entries 16 and 29). -/
def State.takeClock (s : State) : Host.Outcome State Fault Refusal :=
  match s.clocks with
  | [] => .next s
  | bit :: rest => { s with clocks := rest }.clockPeriod bit

end Sys2Proof.Machine
end

