-- ==== Sys2Proof/Machine/Step.lean ====
section
/-! DEFINITION. One step: the command at the front of the queue is taken and executed; on an empty queue the next clock period of the
management port is taken, and without one the block idles. -/

namespace Sys2Proof.Machine

/-- One step of the block (log entries 16, 22 and 29). -/
def step (s : State) : Host.Outcome State Fault Refusal :=
  match s.pending with
  | [] => s.takeClock
  | c :: rest => exec c { s with pending := rest }

/-- The state with the command that a table word spells at the front of its queue; a word that spells none leaves it. -/
def State.withFetchWord (s : State) (nbits w : Nat) : State :=
  match decodeTableWord nbits w with
  | some c => { s with pending := c :: s.pending }
  | none => s

end Sys2Proof.Machine
end

