-- ==== Sys2Proof/WellFormed.lean ====
section
/-! DEFINITION. The commands that can be: a row that stands for a settled message carries only what its own row is settled on, so
that each complete command message has one row (R165, R166, and log entry 11 for the rows the table splits). -/

namespace Sys2Proof

/-- The bytes are a complete command message with a bad check (R166, test 1). -/
def messageBadCheck (msg : List Byte) : Bool :=
  match messageParts msg with
  | some p => !p.checkGood
  | none => false

/-- The bytes are a complete command message with a good check that is no command of the catalogue (R166, test 2). -/
def messageUnknown (msg : List Byte) : Bool :=
  match messageParts msg with
  | some p => p.checkGood && !p.inCatalogue
  | none => false

/-- The well-formed commands. -/
def Instr.wf : Instr → Bool
  | .checkError msg => messageBadCheck msg
  | .badCommand msg => messageUnknown msg
  | .purgeCollecting _ scope => scope != 1#8
  | .resumeRetry _ choice => choice != 1#8
  | .localFrameTrigger kind _ _ => kind != 1#8 && kind != 4#8 && kind != 5#8 && kind != 6#8
  | .upstreamCycle _ _ _ _ _ => true
  | .downstreamResponse _ => true
  | .downstreamTimeout => true
  | .recoveryExpiry => true
  | .holdExpiry => true
  | .delayExpiry _ => true
  | .intervalExpiry _ => true
  | .late _ => true
  | .tick => true
  | .carrierPresent => true
  | .carrierLoss => true
  | .frameReceived _ => true
  | .trigEdge => true
  | .inhChange _ => true
  | .rstAsserted => true
  | .rstReleased _ _ => true
  | .selectAsserted => true
  | .selectReleased => true
  | .responseSent => true
  | .setWindow _ _ _ _ _ _ _ _ => true
  | .setWindowEnable _ _ => true
  | .getWindow _ => true
  | .setPath _ _ _ _ => true
  | .getPath => true
  | .setGroup _ _ => true
  | .getGroup _ => true
  | .enableGroup _ => true
  | .disableGroup _ => true
  | .arm _ => true
  | .clearMissed _ => true
  | .purgeAll _ => true
  | .resumeSkip _ => true
  | .readEntry _ _ => true
  | .setTiming _ _ _ _ => true
  | .getTiming => true
  | .localFrameEvent _ _ => true
  | .localFrameSetup _ _ => true
  | .localFrameStop _ _ => true
  | .localFrameEpoch _ _ => true
  | .setHostInhibit _ => true
  | .getEpoch => true
  | .getLink => true
  | .getStatus => true
  | .setMask _ => true
  | .clearCauses _ => true
  | .takeCompletion => true
  | .takeEvent => true
  | .getRefusal => true
  | .clearRefusal => true
  | .resetDatapath => true
  | .resetAll => true
  | .lineTransition => true
  | .startMarker => true

end Sys2Proof
end

