-- ==== Sys2Proof/Safety.lean ====
section
/-! DEFINITION. What counts as a good state of the part: the relations that the rules say always hold between its pieces of state.
Claims are stated in these terms. -/

namespace Sys2Proof.Machine

/-- The states in which a group has a batch (R50). -/
def GroupState.hasBatch : GroupState → Bool
  | .disabled => false
  | .collecting => false
  | .pending => true
  | .ready => true
  | .releasing => true
  | .interval => true
  | .held => true
  | .faulted => true

/-- No queue is over its places, and no group over its quota (R22, R24, R153, R155). -/
abbrev State.capacityOk (s : State) : Prop :=
  s.queue.entries.length ≤ 512 ∧ (∀ g : GroupId, s.entryCount g ≤ s.groups[g].config.quota) ∧
    s.report.completions.length ≤ 32 ∧ s.report.events.length ≤ 16

/-- The ready list holds the READY groups, the held list the HELD ones, neither one twice (R59), and the RELEASING group is the
engine's current group (R75). -/
abbrev State.listsOk (s : State) : Prop :=
  s.ready.Nodup ∧ s.heldList.Nodup ∧
    (∀ g : GroupId, g ∈ s.ready ↔ s.groups[g].state = .ready) ∧
    (∀ g : GroupId, g ∈ s.heldList ↔ s.groups[g].state = .held) ∧
    (∀ g : GroupId, s.groups[g].state = .releasing ↔ s.engine.phase.current = some g)

/-- The lists are right, and a group has BATCH entries exactly in the states that have a batch (R50). -/
abbrev State.batchesOk (s : State) : Prop :=
  s.listsOk ∧ ∀ g : GroupId, s.batchCount g ≠ 0 ↔ s.groups[g].state.hasBatch = true

/-- The counts of the batches (R49): in ONCE the position and the batch entries queued make up the batch size, in REPEAT all the batch
entries are queued and the position names one of them. -/
abbrev State.countsOk (s : State) : Prop :=
  ∀ g : GroupId, s.groups[g].state.hasBatch = true →
    (s.groups[g].config.mode = .once → s.groups[g].position + s.batchCount g = s.groups[g].batchSize) ∧
    (s.groups[g].config.mode = .repeating →
      s.batchCount g = s.groups[g].batchSize ∧ s.groups[g].position < s.groups[g].batchSize)

/-- Armed is yes only in a group that requires arming and is not DISABLED (R69, R144). -/
abbrev State.armedOk (s : State) : Prop :=
  ∀ g : GroupId, s.groups[g].armed = true → s.groups[g].config.armRequired = true ∧ s.groups[g].state ≠ .disabled

/-- The link receiver and the time base agree: the table of 5.3, the bounds of R105 and R106, the fall-back of R107, the table of
R123. -/
abbrev State.linkOk (s : State) : Prop :=
  (s.link.carrier = true ↔ s.link.state ≠ .down) ∧ s.link.acquired ≤ 3 ∧ s.link.history.length ≤ 8 ∧
    (s.link.expected ≠ none → s.link.state = .up) ∧ (s.link.state = .up → s.link.badCount < 3) ∧
    s.time.supplier = supplierFor s.time.source s.link.state ∧
    (s.time.holdover = true ↔ s.time.source = .linkRef ∧ s.link.state ≠ .up)

/-- While RST is asserted the part holds what a pin reset leaves (R172 and the reset rules of the blocks). -/
abbrev State.resetOk (s : State) : Prop := s.pins.rst = true → s.pinReset = s

/-- While effective inhibit is set no group is READY in the list and no release request waits; while it is clear no group is in the
held list; and out of reset PIN follows the pin (R84, R135, R137 to R139). -/
abbrev State.inhibitOk (s : State) : Prop :=
  s.resetOk ∧ (s.inhibited = true → s.ready = [] ∧ s.engineWaiting = false) ∧ (s.inhibited = false → s.heldList = []) ∧
    (s.pins.rst = false → s.inhibit.sources.pin = s.pins.inhHigh)

/-- The engine's release write is in flight. -/
def EnginePhase.inFlight : EnginePhase → Bool
  | .running _ _ .inFlight => true
  | _ => false

/-- The host path's cycle is in flight. -/
def Upstream.inFlight (u : Upstream) : Bool :=
  match u.host with
  | some h => h.claim == .inFlight
  | none => false

/-- The cycle on the port is the engine's. -/
def PortState.ofEngine : PortState → Bool
  | .busy .engine _ => true
  | _ => false

/-- The cycle on the port is the host path's. -/
def PortState.ofHost : PortState → Bool
  | .busy .host _ => true
  | _ => false

/-- The port is closed: RECOVERING or DRAINING. -/
def PortState.closed : PortState → Bool
  | .recovering _ => true
  | .draining _ => true
  | .free => false
  | .busy _ _ => false

/-- The port carries one cycle, whose source knows it is in flight, and nobody else does; a DRAINING engine waits for a closed
port, and a DRAINING port has a DRAINING engine (R75, R90, R91, R98). -/
abbrev State.portOk (s : State) : Prop :=
  s.engine.phase.inFlight = s.arbiter.port.ofEngine ∧ s.upstream.inFlight = s.arbiter.port.ofHost ∧
    (s.engine.phase = .draining → s.arbiter.port.closed = true) ∧
    (∀ o, s.arbiter.port = .draining o → s.engine.phase = .draining) ∧
    (s.queue.held = none ∨ s.upstream.host = none)

/-- No byte has come after the check byte of a command message: the arguments that the length byte names are not all there, or the
check byte is still to come (R165). -/
def messageOpen : List Byte → Bool
  | _ :: len :: rest => decide (rest.length ≤ argBytes len)
  | _ => true

/-- With the select line released there is no transaction; a pending TAKE waits for its response to be sent, and a pending RESET_ALL for
the release of select. A byte group that is not complete has fewer than eight bits, and none in IDLE; in COMMAND the message is not
complete; the response is there in RESPONSE alone, with a byte of it still to send (R163 to R165, R168, R169). -/
abbrev State.transactionOk (s : State) : Prop :=
  (s.mgmt.select = false → s.mgmt.phase = .idle) ∧ (s.mgmt.pendingTake ≠ none → s.mgmt.phase = .response) ∧
    (s.mgmt.pendingReset = true → s.mgmt.phase = .response ∨ s.mgmt.phase = .trailing) ∧
    s.mgmt.bitsIn.length < 8 ∧ (s.mgmt.phase = .idle → s.mgmt.bitsIn = [] ∧ s.mgmt.command = []) ∧
    (s.mgmt.phase = .command → messageOpen s.mgmt.command = true) ∧
    (s.mgmt.phase = .response → s.mgmt.sent < s.mgmt.responseBytes.length) ∧
    (s.mgmt.phase ≠ .response → s.mgmt.response = none ∧ s.mgmt.sent = 0)

/-- The port's response to a command message, with nothing else changed: RESPONSE, the message's bytes, the reply with no byte of it
sent (R164). -/
def State.reply (s : State) (i : Instr) (status : Status) (results : List Byte) : State :=
  { s with mgmt := { s.mgmt with
      phase := .response, command := i.message, bitsIn := [], response := some ⟨status, results⟩, sent := 0 } }

/-- A cause set with one cause more (R150). -/
def Report.with (r : Report) (c : Cause) : Report := { r with causes := r.causes ||| c.set }

end Sys2Proof.Machine
end

