-- ==== Sys2Proof/Certificates/Slice0/Obligations.lean ====
section
/-! DEFINITION. The statements for the provers, with the words they are said in: what a rule asks of a state, and the state it gives,
each written out from the rule and not from the meaning it is compared with. -/

namespace Sys2Proof.Claims

open Sys2Proof.Machine

/-! ### Words for states -/

/-- One group's record replaced. -/
def withGroup (s : State) (g : GroupId) (r : Group) : State := { s with groups := s.groups.set g.val r g.isLt }

/-- Nothing waits for an event that has happened: an idle engine with no READY group (R76), a FREE port with no request (R90). -/
abbrev settled (s : State) : Prop :=
  (s.engine.phase = .idle → s.ready = []) ∧ (s.arbiter.port = .free → s.engineWaiting = false ∧ s.hostWaiting = false)

/-- A command message can be settled: the management port is in COMMAND (R164). -/
abbrev inCommand (s : State) : Prop := s.mgmt.phase = .command

/-- The bits of some bytes in the order of the wire: byte after byte, each most significant bit first (R163). -/
def wireBits (bytes : List Byte) : List Bool := bytes.flatMap fun b => (List.range 8).map b.getMsbD

/-- One state becomes the other in so many steps. -/
def stepsTo : Nat → State → State → Prop
  | 0, s, t => t = s
  | n + 1, s, t => ∃ u, step s = .next u ∧ stepsTo n u t

/-- Some commands, each executed in the state that the one before it left, take one state to the other. -/
def runs : List Instr → State → State → Prop
  | [], s, t => t = s
  | c :: rest, s, t => ∃ u, exec c s = .next u ∧ runs rest u t

/-- yes 1, no 0 (R176). -/
def yesNo (b : Bool) : Byte := if b then 1 else 0

/-! ### The decode of an upstream cycle -/

/-- The command of an upstream cycle. -/
def cycle (c : UCycle) : Instr := .upstreamCycle c.addr c.kind c.cls c.lanes c.data

/-- A cycle can arrive: RST is released and the cycle before it is answered. -/
abbrev canArrive (s : State) : Prop := s.pins.rst = false ∧ s.queue.held = none ∧ s.upstream.host = none

/-- The cycle's word address: the address with its two low bits cleared (R1). -/
def word (c : UCycle) : Addr := c.addr &&& 0xFFFFFFFC#32

/-- A window contains the cycle: enabled, and the word address from base to base plus size minus 4 (R4). -/
abbrev contains (s : State) (i : WindowId) (c : UCycle) : Prop :=
  s.decoder.windows[i].enabled = true ∧ s.decoder.windows[i].base.toNat ≤ (word c).toNat ∧
    (word c).toNat + 4 ≤ s.decoder.windows[i].base.toNat + s.decoder.windows[i].size.toNat

/-- Exactly one window contains the cycle, and the cycle passes its class test (R9). -/
abbrev admittedBy (s : State) (i : WindowId) (c : UCycle) : Prop :=
  (∀ j, contains s j c ↔ j = i) ∧ (s.decoder.windows[i].filter = .any ∨ c.cls = .privileged)

/-- The decode refuses the cycle with this reason, naming this window or none (R7 to R11). -/
def refusedBy (s : State) (c : UCycle) : RefusalReason → Option WindowId → Prop
  | .defaultRefuse, none => (∀ i, ¬ contains s i c) ∧ s.decoder.policy = .refuse
  | .overlap, none => ∃ i j, i ≠ j ∧ contains s i c ∧ contains s j c
  | .cls, some i =>
    (∀ j, contains s j c ↔ j = i) ∧ s.decoder.windows[i].filter = .privilegedOnly ∧ c.cls = .normal
  | .guardWrite, some i => admittedBy s i c ∧ s.decoder.windows[i].kind = .guard ∧ c.kind = .write
  | .closed, some i => admittedBy s i c ∧ s.decoder.windows[i].kind = .closed
  | .groupDisabled, some i =>
    admittedBy s i c ∧ s.decoder.windows[i].kind = .stage ∧ c.kind = .write ∧
      s.groups[s.decoder.windows[i].group].state = .disabled
  | _, _ => False

/-- The decode passes the cycle through, by a window or by the default policy (R7, R10, R12). -/
def passesThrough (s : State) (c : UCycle) : Option WindowId → Prop
  | none => (∀ i, ¬ contains s i c) ∧ s.decoder.policy = .pass
  | some i =>
    admittedBy s i c ∧
      (s.decoder.windows[i].kind = .pass ∨ (s.decoder.windows[i].kind = .guard ∧ c.kind = .read) ∨
        (s.decoder.windows[i].kind = .stage ∧ c.kind = .read ∧ s.decoder.windows[i].view = .memory))

/-- The decode makes the cycle a staged write (R11). -/
abbrev stagedThrough (s : State) (c : UCycle) (i : WindowId) : Prop :=
  admittedBy s i c ∧ s.decoder.windows[i].kind = .stage ∧ c.kind = .write ∧
    s.groups[s.decoder.windows[i].group].state ≠ .disabled

/-- The decode makes the cycle a forwarding read (R12). -/
abbrev forwardedThrough (s : State) (c : UCycle) (i : WindowId) : Prop :=
  admittedBy s i c ∧ s.decoder.windows[i].kind = .stage ∧ c.kind = .read ∧ s.decoder.windows[i].view = .forward

/-- No lane of the cycle is enabled. -/
abbrev noLane (c : UCycle) : Prop := c.lanes = ⟨false, false, false, false⟩

/-- The refusal record after a refusal: captured where it was empty, else further set and the rest kept (R15). -/
def recorded (s : State) (c : UCycle) (reason : RefusalReason) (w : Option WindowId) : RefusalRecord :=
  match s.report.refusal with
  | none => ⟨⟨word c, c.kind, c.cls, c.lanes⟩, reason, w, false⟩
  | some old => { old with further := true }

/-- The ERROR of a refusal: a READ carries zero on all four lanes (R13). -/
def errorFor (c : UCycle) : UResponse := .error (if c.kind = .read then some ⟨0, 0, 0, 0⟩ else none)

/-- The state in which an upstream cycle has been refused and nothing else has changed: ERROR, the cause, the record (R13). -/
def refused (s : State) (c : UCycle) (reason : RefusalReason) (w : Option WindowId) : State :=
  { s with
    upstream := ⟨none, some (errorFor c)⟩
    report := { s.report.with .refusal with refusal := some (recorded s c reason w) } }

/-- The state in which an upstream cycle has been answered and nothing else has changed. -/
def answered (s : State) (r : UResponse) : State := { s with upstream := ⟨none, some r⟩ }

/-! ### Staged writes and forwarding reads -/

/-- The staged write with the values fixed at decode: the enabled lanes carry their bytes (R11). -/
def written (s : State) (c : UCycle) (i : WindowId) : StagedWrite where
  group := s.decoder.windows[i].group
  word := word c
  bytes :=
    ⟨if c.lanes.l0 then some c.data.l0 else none, if c.lanes.l1 then some c.data.l1 else none,
     if c.lanes.l2 then some c.data.l2 else none, if c.lanes.l3 then some c.data.l3 else none⟩
  window := i
  cls := c.cls
  mergeable := decide (s.decoder.windows[i].merge = .merge)

/-- The entry is one the write may merge into (R26, test 1). -/
abbrev mayMerge (w : StagedWrite) (e : Entry) : Prop :=
  w.mergeable = true ∧ e.mergeable = true ∧ e.part = .collecting ∧ e.group = w.group ∧ e.word = w.word

/-- Space exists for a group (R24). -/
abbrev space (s : State) (g : GroupId) : Prop :=
  s.queue.entries.length < 512 ∧ (s.queue.entries.filter (fun e => e.group = g)).length < s.groups[g].config.quota

/-- The entry after a merge: a lane of the write replaces or adds its byte, the rest is kept (R27). -/
def merged (w : StagedWrite) (e : Entry) : Entry :=
  { e with bytes :=
      ⟨if w.bytes.l0.isSome then w.bytes.l0 else e.bytes.l0, if w.bytes.l1.isSome then w.bytes.l1 else e.bytes.l1,
       if w.bytes.l2.isSome then w.bytes.l2 else e.bytes.l2, if w.bytes.l3.isSome then w.bytes.l3 else e.bytes.l3⟩ }

/-- The entry an append adds (R23). -/
def appended (w : StagedWrite) (arrival : BitVec 16) : Entry :=
  ⟨w.group, w.word, w.bytes, w.window, w.cls, w.mergeable, arrival, .collecting⟩

/-- What the forwarding lookup finds on one lane: the byte of the entry nearest the tail that carries the lane, or nothing where
no entry of the group for the word carries it (R38). -/
def finds (s : State) (g : GroupId) (a : Addr) (lane : LaneBytes → Option Byte) : Option Byte → Prop
  | some b =>
    ∃ before e after, s.queue.entries = before ++ e :: after ∧ e.group = g ∧ e.word = a ∧ lane e.bytes = some b ∧
      ∀ x ∈ after, x.group = g → x.word = a → lane x.bytes = none
  | none => ∀ x ∈ s.queue.entries, x.group = g → x.word = a → lane x.bytes = none

/-- What the forwarding lookup finds on the four lanes (R38). -/
def findsAll (s : State) (g : GroupId) (a : Addr) (found : LaneBytes) : Prop :=
  finds s g a (·.l0) found.l0 ∧ finds s g a (·.l1) found.l1 ∧ finds s g a (·.l2) found.l2 ∧ finds s g a (·.l3) found.l3

/-- The cycle goes to the host path with this route: a pass-through cycle, or a forwarding read with a lane uncovered (R16, R39). -/
def takesRoute (s : State) (c : UCycle) (w : Option WindowId) : Route → Prop
  | .passThrough => passesThrough s c w
  | .forwarding found =>
    ∃ i, w = some i ∧ forwardedThrough s c i ∧ findsAll s s.decoder.windows[i].group (word c) found ∧
      (found.l0 = none ∨ found.l1 = none ∨ found.l2 = none ∨ found.l3 = none)

/-- The downstream cycle of a host-path cycle (R3). -/
def hostDownstream (c : UCycle) : Route → DCycle
  | .passThrough => ⟨c.addr, c.kind, c.lanes, ⟨some c.data.l0, some c.data.l1, some c.data.l2, some c.data.l3⟩⟩
  | .forwarding _ => ⟨word c, .read, ⟨true, true, true, true⟩, ⟨none, none, none, none⟩⟩

/-- What the host is answered at memory's DONE (R16, R39). -/
def hostAnswer (c : UCycle) (data : WordData) : Route → UResponse
  | .passThrough => .done (if c.kind = .read then some data else none)
  | .forwarding found =>
    .done (some ⟨found.l0.getD data.l0, found.l1.getD data.l1, found.l2.getD data.l2, found.l3.getD data.l3⟩)

/-! ### Groups, batches and triggers -/

/-- The entry stands in the batch of the group. -/
abbrev inBatch (g : GroupId) (e : Entry) : Prop := e.group = g ∧ e.part = .batch

/-- The entry stands in the collecting part of the group. -/
abbrev collects (g : GroupId) (e : Entry) : Prop := e.group = g ∧ e.part = .collecting

/-- The release write of an entry (R3). -/
def releaseWrite (e : Entry) : DCycle :=
  ⟨e.word, .write, ⟨e.bytes.l0.isSome, e.bytes.l1.isSome, e.bytes.l2.isSome, e.bytes.l3.isSome⟩, e.bytes⟩

/-- A cycle on the port from its grant, timed with the D_TIMEOUT in force (R94). -/
def granted (s : State) (source : PortSource) (c : DCycle) : PortState :=
  .busy source ⟨c, .running s.arbiter.dTimeout, s.arbiter.dTimeout⟩

/-- The record of a group whose batch has ended (R62, steps 3 to 6): what the batch held is cleared. -/
def afterBatch (r : Group) (outcome : BatchOutcome) : Group where
  config := r.config
  state := .collecting
  armed := r.armed
  batchNumber := r.batchNumber
  batchSize := 0
  position := 0
  repetitions := 0
  underway := false
  late := false
  faults := 0
  firstFault := none
  origin := none
  firstStart := none
  lastStart := none
  timer := .stopped
  missed := r.missed
  lastMissed := r.lastMissed
  lastOutcome := some outcome

/-- The record of a batch that ends now with these counts (R89, R154). -/
def batchRecord (s : State) (g : GroupId) (r : Group) (outcome : BatchOutcome) (writesOk unwritten : Nat) : Completion where
  group := g
  batchNumber := r.batchNumber
  outcome := outcome
  origin := r.origin
  firstStart := r.firstStart
  endStamp := ⟨s.time.generation, s.time.counter⟩
  batchSize := r.batchSize
  repetitions := r.repetitions
  writesOk := writesOk
  writesFaulted := r.faults
  unwritten := unwritten
  firstFault := r.firstFault

/-- Entries unwritten at a batch end (R89). -/
def unwrittenOf (r : Group) : Nat :=
  if r.underway = true then r.batchSize - r.position else if r.repetitions = 0 then r.batchSize else 0

/-! ### What follows from an event -/

/-- A completion record posted: it joins the tail of a queue of fewer than 32, else it is lost (R153). -/
def posted (r : Report) (c : Completion) : Report :=
  if r.completions.length < 32 then { r.with .releaseDone with completions := r.completions ++ [c] }
  else (r.with .releaseDone).with .completionOverrun

/-- The queue's test for the held write: with space for its group it joins the tail, its host is answered DONE, and its timer is
cancelled (R32). -/
def spaceTested (u : State) : State :=
  match u.queue.held with
  | some w =>
    if space u w.group then
      { u with
        queue := { u.queue with
          entries := u.queue.entries ++ [appended w u.queue.arrival], arrival := u.queue.arrival + 1, held := none
          holdTimer := .stopped }
        upstream := { u.upstream with response := some (.done none) } }
    else u
  | none => u

/-- The end of a non-empty batch (R62, R89). -/
def batchEnd (u : State) (g : GroupId) (outcome : BatchOutcome) : State :=
  let r := u.groups[g]
  spaceTested
    { withGroup u g (afterBatch r outcome) with
      queue := { u.queue with entries := u.queue.entries.filter (fun e => ¬ inBatch g e) }
      ready := u.ready.filter (fun h => h ≠ g)
      heldList := u.heldList.filter (fun h => h ≠ g)
      engine := { u.engine with tally := u.engine.tally.set g.val 0 g.isLt }
      report := posted u.report (batchRecord u g r outcome u.engine.tally[g] (unwrittenOf r)) }

/-- A group goes on to READY, or with effective inhibit set to HELD, at the tail of the list (R140). -/
def goesOn (u : State) (g : GroupId) : State :=
  if u.inhibited = true then
    { withGroup u g { u.groups[g] with state := .held } with heldList := u.heldList ++ [g] }
  else { withGroup u g { u.groups[g] with state := .ready } with ready := u.ready ++ [g] }

/-- The record of a group that the engine takes: a repetition start unless one is underway (R60). -/
def started (u : State) (r : Group) : Group :=
  if r.underway = true then { r with state := .releasing }
  else
    { r with
      state := .releasing, underway := true, lastStart := some ⟨u.time.generation, u.time.counter⟩
      firstStart := some (r.firstStart.getD ⟨u.time.generation, u.time.counter⟩)
      timer := if r.config.mode = .repeating then .running r.config.interval else r.timer }

/-- An idle engine takes the ready-list head, with a waiting request (R76). -/
def headTaken (u : State) : State :=
  match u.engine.phase, u.ready with
  | .idle, g :: rest =>
    { withGroup u g (started u u.groups[g]) with
      ready := rest, engine := { u.engine with phase := .running g false .waiting } }
  | _, _ => u

/-- The entry that the engine writes next for a group: its oldest BATCH entry in ONCE, the one at the position in REPEAT (R42). -/
def entryToWrite (u : State) (g : GroupId) : Option Entry :=
  (u.queue.entries.filter (fun e => inBatch g e))[if u.groups[g].config.mode = .once then 0 else u.groups[g].position]?

/-- The port granted to the host path (R93, R94). -/
def hostGranted (u : State) (h : HostCycle) : State :=
  { u with
    upstream := { u.upstream with host := some { h with claim := .inFlight } }
    arbiter := { u.arbiter with port := granted u .host (hostDownstream h.cycle h.route), burst := 0 } }

/-- The port granted to the engine's group (R77, R93, R94). -/
def engineGranted (u : State) (g : GroupId) (stopping : Bool) : State :=
  match entryToWrite u g with
  | some e =>
    { u with
      engine := { u.engine with phase := .running g stopping .inFlight }
      arbiter := { u.arbiter with port := granted u .engine (releaseWrite e), burst := min (u.arbiter.burst + 1) 255 } }
  | none => u

/-- The host path's waiting request. -/
def hostRequest (u : State) : Option HostCycle := u.upstream.host.filter (fun h => h.claim = .waiting)

/-- The engine's waiting request: its group and its stopping mark. -/
def engineRequest (u : State) : Option (GroupId × Bool) :=
  match u.engine.phase with
  | .running g stopping .waiting => some (g, stopping)
  | _ => none

/-- The grant decision, made at a FREE port alone: the engine first, unless the burst count has reached a BURST_LIMIT that is
not 0 with the host waiting (R92). -/
def grants (u : State) : State :=
  match u.arbiter.port, hostRequest u, engineRequest u with
  | .free, some h, none => hostGranted u h
  | .free, none, some (g, stopping) => engineGranted u g stopping
  | .free, some h, some (g, stopping) =>
    if 1 ≤ u.arbiter.burstLimit ∧ u.arbiter.burstLimit ≤ u.arbiter.burst then hostGranted u h else engineGranted u g stopping
  | _, _, _ => u

/-- At the same event: the idle engine's take, then the grant decision (R76, R92, R99). -/
def afterwards (u : State) : State := grants (headTaken u)

/-! ### The end of a release write -/

/-- How a release write can end. -/
inductive WriteResult where
  | done
  | error
  | timeout
  deriving DecidableEq, Repr

/-- The command that ends a cycle so. -/
def ending (data : WordData) : WriteResult → Instr
  | .done => .downstreamResponse (.done data)
  | .error => .downstreamResponse .error
  | .timeout => .downstreamTimeout

/-- The group's write is in flight on the port; a timeout is taken where its expiry is due. -/
abbrev writeInFlight (s : State) (g : GroupId) (stopping : Bool) (o : Outstanding) (how : WriteResult) : Prop :=
  s.engine.phase = .running g stopping .inFlight ∧ s.arbiter.port = .busy .engine o ∧ (how = .timeout → o.timer = .due)

/-- The part when the write has ended, before its entry is settled: the port FREE, or after a timeout RECOVERING for the recorded
D_TIMEOUT (R94, R95); a DONE in the batch tally (R78), a fault in the group's record with RELEASE_FAULT (R79). -/
def writeOver (s : State) (g : GroupId) (o : Outstanding) (how : WriteResult) : State :=
  let r := s.groups[g]
  let faulted := { withGroup s g { r with
      faults := min (r.faults + 1) 65535, firstFault := some (r.firstFault.getD o.cycle.addr) } with
    report := s.report.with .releaseFault }
  match how with
  | .done =>
    { s with
      arbiter := { s.arbiter with port := .free }
      engine := { s.engine with tally := s.engine.tally.set g.val (min (s.engine.tally[g] + 1) 4294967295) g.isLt } }
  | .error => { faulted with arbiter := { s.arbiter with port := .free } }
  | .timeout => { faulted with arbiter := { s.arbiter with port := .recovering { o with timer := .running o.recorded } } }

/-- The entry at the position is passed: in ONCE it is removed, as one removal; the position advances (R78, R80, R87). -/
def passed (u : State) (g : GroupId) : State :=
  let v := withGroup u g { u.groups[g] with position := u.groups[g].position + 1 }
  if u.groups[g].config.mode = .once then
    spaceTested { v with queue := { v.queue with entries := v.queue.entries.eraseP (fun e => inBatch g e) } }
  else v

/-- The repetition has ended (R42). -/
abbrev repetitionOver (u : State) (g : GroupId) : Prop :=
  if u.groups[g].config.mode = .once then ∀ e ∈ u.queue.entries, ¬ inBatch g e
  else u.groups[g].position = u.groups[g].batchSize

/-- The engine is idle. -/
def engineIdle (u : State) : State := { u with engine := { u.engine with phase := .idle } }

/-- A repetition end counted in the group: it advances the repetitions completed, and none is underway (R61). -/
def repetitionCounted (u : State) (g : GroupId) : State :=
  withGroup u g { u.groups[g] with repetitions := min (u.groups[g].repetitions + 1) 65535, underway := false }

/-- The batch ends at this repetition end: mode ONCE, or the repetitions completed equal a repeat count of 1 or more (R61). -/
abbrev lastRepetition (u : State) (g : GroupId) : Prop :=
  u.groups[g].config.mode = .once ∨
    (1 ≤ u.groups[g].config.repeatCount ∧ u.groups[g].repetitions = u.groups[g].config.repeatCount)

/-- The outcome of a batch that reaches its end (R61). -/
def endOutcome (r : Group) : BatchOutcome := if r.faults = 0 then .complete else .completeFaults

/-- A repetition end that does not end the batch: INTERVAL, or after a late one REPEAT_LATE and on to the next (R63). -/
def repeats (u : State) (g : GroupId) : State :=
  let r := { u.groups[g] with position := 0 }
  if r.late = true then goesOn { withGroup u g { r with late := false } with report := u.report.with .repeatLate } g
  else withGroup u g { r with state := .interval }

/-! ### Inhibit, triggers, arming and STOP -/

/-- The groups that an inhibit becoming set moves to the held list: the running one whose request waits, then the ready list
(R84, R138). -/
def moved (u : State) : List GroupId := (engineRequest u).toList.map Prod.fst ++ u.ready

/-- Effective inhibit has become set (R84, R137, R138). -/
def withheld (u : State) : State :=
  { u with
    groups := Vector.ofFn fun g => if g ∈ moved u then { u.groups[g] with state := .held } else u.groups[g]
    heldList := u.heldList ++ moved u
    ready := []
    engine := { u.engine with phase := if (engineRequest u).isSome then .idle else u.engine.phase }
    report := u.report.with .inhibitChange }

/-- Effective inhibit has become clear (R137, R139). -/
def letGo (u : State) : State :=
  afterwards
    { u with
      groups := Vector.ofFn fun g => if g ∈ u.heldList then { u.groups[g] with state := .ready } else u.groups[g]
      ready := u.ready ++ u.heldList
      heldList := []
      report := u.report.with .inhibitChange }

/-- The source set becomes this one: effective inhibit is compared before and after (R137). -/
def sourcesBecome (u : State) (i : InhibitSet) : State :=
  let v := { u with inhibit := { u.inhibit with sources := i } }
  let before := u.inhibit.sources ≠ ⟨false, false, false, false⟩
  let after := i ≠ ⟨false, false, false, false⟩
  if ¬ before ∧ after then withheld v else if before ∧ ¬ after then letGo v else v

/-- The trigger concerns the group (R52). -/
def concerns (t : Trigger) (c : GroupConfig) : Bool :=
  c.profileSet.getLsbD t.profile.val &&
    match t.kind with
    | .channel ch => decide (c.triggerSource = .channels) && c.channelSet.getLsbD ch.val
    | .event code => decide (c.triggerSource = .event ∧ code &&& c.matchMask = c.matchCode &&& c.matchMask)

/-- How many entries a cut of the group makes BATCH (R54). -/
def cutSize (s : State) (g : GroupId) : Nat := (s.queue.entries.filter (fun e => collects g e)).length

/-- The group takes the trigger (R53). -/
abbrev takes (s : State) (t : Trigger) (g : GroupId) : Prop :=
  concerns t s.groups[g].config = true ∧ s.groups[g].state = .collecting ∧
    (s.groups[g].config.armRequired = true → s.groups[g].armed = true)

/-- The group misses the trigger (R53, R58). -/
abbrev misses (s : State) (t : Trigger) (g : GroupId) : Prop :=
  concerns t s.groups[g].config = true ∧ s.groups[g].state ≠ .disabled ∧ ¬ takes s t g

/-- The group takes the trigger, with something collected and no delay (R56). -/
abbrev takesAtOnce (s : State) (t : Trigger) (g : GroupId) : Prop :=
  takes s t g ∧ cutSize s g ≠ 0 ∧ s.groups[g].config.delay = 0

/-- The group's record with its batch state as the cut sets it (R54). -/
def cutRecord (r : Group) (t : Trigger) (size : Nat) : Group :=
  { r with
    batchSize := size, batchNumber := r.batchNumber + 1, origin := some t, armed := false, position := 0, repetitions := 0
    faults := 0, late := false, underway := false, firstFault := none, firstStart := none, lastStart := none }

/-- The group's record once it has settled the trigger (R52 to R56, R58). -/
def afterTrigger (s : State) (t : Trigger) (g : GroupId) (r : Group) : Prop :=
  let old := s.groups[g]
  let cut := cutRecord old t (cutSize s g)
  (¬ takes s t g → ¬ misses s t g → r = old) ∧
  (misses s t g → old.state = .collecting →
    r = { old with missed := min (old.missed + 1) 255, lastMissed := some .notArmed }) ∧
  (misses s t g → old.state ≠ .collecting →
    r = { old with missed := min (old.missed + 1) 255, lastMissed := some .busy }) ∧
  (takes s t g → cutSize s g = 0 → r = { cut with origin := none, lastOutcome := some .empty }) ∧
  (takes s t g → cutSize s g ≠ 0 → old.config.delay ≠ 0 →
    r = { cut with state := .pending, timer := .running old.config.delay }) ∧
  (takesAtOnce s t g → s.inhibited = false → r = { cut with state := .ready }) ∧
  (takesAtOnce s t g → s.inhibited = true → r = { cut with state := .held })

/-- The record of an empty batch (R55). -/
def emptyRecord (s : State) (t : Trigger) (g : GroupId) : Completion where
  group := g
  batchNumber := s.groups[g].batchNumber + 1
  outcome := .empty
  origin := some t
  firstStart := none
  endStamp := ⟨s.time.generation, s.time.counter⟩
  batchSize := 0
  repetitions := 0
  writesOk := 0
  writesFaulted := 0
  unwritten := 0
  firstFault := none

/-- The eight groups have settled the trigger, and nothing else has changed (R29, R51, R55, R56, R58). -/
def offered (s : State) (t : Trigger) (u : State) : Prop :=
  (∀ g : GroupId, afterTrigger s t g u.groups[g]) ∧
  u = { s with
    groups := u.groups
    queue := { s.queue with
      entries := s.queue.entries.map (fun e =>
        if takes s t e.group ∧ e.part = .collecting then { e with part := .batch } else e) }
    ready := s.ready ++ groupIds.filter (fun g => takesAtOnce s t g ∧ s.inhibited = false)
    heldList := s.heldList ++ groupIds.filter (fun g => takesAtOnce s t g ∧ s.inhibited = true)
    report :=
      let r := ((groupIds.filter (fun g => takes s t g ∧ cutSize s g = 0)).map (emptyRecord s t)).foldl posted s.report
      if ∃ g ∈ groupIds, misses s t g then r.with .triggerMissed else r }

/-- The groups have settled the trigger, and what follows at the same event has happened (R51, R76). -/
def triggered (s : State) (t : Trigger) (v : State) : Prop := ∃ u, offered s t u ∧ v = afterwards u

/-- A SETUP or STOP with this profile and argument byte reaches the group (R142). -/
abbrev reaches (c : GroupConfig) (profile : Profile) (argument : Byte) : Prop :=
  c.profileSet.getLsbD profile.val = true ∧
    (argument = 0 ∨ (c.triggerSource = .channels ∧ 1 ≤ argument.toNat ∧ argument.toNat ≤ 8 ∧
      c.channelSet.getLsbD (argument.toNat - 1) = true))

/-- A group is armed: its armed flag becomes yes where it requires arming and is not DISABLED (R143, R144). -/
def armedNow (r : Group) : Group :=
  if r.config.armRequired = true ∧ r.state ≠ .disabled then { r with armed := true } else r

/-- A SETUP has been taken (R143). -/
def setUp (s : State) (p : Profile) (argument : Byte) : State :=
  { s with groups := Vector.ofFn fun g =>
      if reaches s.groups[g].config p argument then armedNow s.groups[g] else s.groups[g] }

/-- A group that a STOP reaches is settled by its state; at the running one a waiting request is withdrawn and the batch ends, a
write in flight marks it (R83, R147). -/
def stopsOne (p : Profile) (argument : Byte) (u : State) (g : GroupId) : State :=
  if ¬ reaches u.groups[g].config p argument then u
  else
    match u.groups[g].state with
    | .disabled | .collecting => u
    | .pending | .ready | .interval | .held | .faulted => batchEnd u g .stopped
    | .releasing =>
      if u.engine.phase = .running g true .waiting ∨ u.engine.phase = .running g false .waiting then
        batchEnd (engineIdle u) g .stopped
      else if u.engine.phase = .running g false .inFlight then
        { u with engine := { u.engine with phase := .running g true .inFlight } }
      else u

/-- A STOP has been taken (R146). -/
def stopped (s : State) (p : Profile) (argument : Byte) : State :=
  let u := { s with
    report := s.report.with .stopReceived
    groups := Vector.ofFn fun g =>
      if reaches s.groups[g].config p argument ∧ s.groups[g].state ≠ .disabled then { s.groups[g] with armed := false }
      else s.groups[g] }
  afterwards ([0, 1, 2, 3, 4, 5, 6, 7].foldl (stopsOne p argument) u)

/-- An EPOCH has been taken (R129). -/
def epochTaken (s : State) (source : Origin) : State :=
  { s with time := { s.time with
      lastEpoch := some ⟨source, ⟨s.time.generation, s.time.counter⟩⟩, counter := 0, generation := s.time.generation + 1 } }

/-- An event record posted: it joins the tail of a queue of fewer than 16 with EVENT_RECEIVED, else it is lost with EVENT_OVERRUN
(R155). -/
def eventPosted (s : State) (e : EventRecord) : State :=
  { s with report :=
      if s.report.events.length < 16 then { s.report.with .eventReceived with events := s.report.events ++ [e] }
      else s.report.with .eventOverrun }

/-- What a dispatched frame, or an accepted LOCAL_FRAME, with these fields makes of the part (R114 to R116, R119); a frame that fails
the format test makes nothing (R113). -/
def acted (s : State) (source : Origin) (kind : FrameKind) (p : Profile) (argument : Byte) (t : State) : Prop :=
  let now : Stamp := ⟨s.time.generation, s.time.counter⟩
  match kind with
  | .trigger => ∃ c : Channel, argument.toNat = c.val + 1 ∧ triggered s ⟨source, .channel c, p, now⟩ t
  | .event => triggered (eventPosted s ⟨argument, p, source, now⟩) ⟨source, .event argument, p, now⟩ t
  | .inhibit => t = sourcesBecome s { s.inhibit.sources with link := true }
  | .uninhibit => t = sourcesBecome s { s.inhibit.sources with link := false }
  | .setup => argument.toNat ≤ 8 ∧ t = setUp s p argument
  | .stop => argument.toNat ≤ 8 ∧ t = stopped s p argument
  | .epoch => t = epochTaken s source
  | .invalid => False

/-- The fields pass the format test (R113). -/
abbrev wellFormatted (kind : FrameKind) (argument : Byte) : Prop :=
  kind ≠ .invalid ∧ (kind = .trigger → 1 ≤ argument.toNat ∧ argument.toNat ≤ 8) ∧
    (kind = .setup ∨ kind = .stop → argument.toNat ≤ 8)

/-! ### Messages and results -/

/-- The command message is answered so, the part being otherwise as u. -/
abbrev answers (s : State) (i : Instr) (u : State) (status : Status) (results : List Byte) : Prop :=
  exec i s = .next (u.reply i status results)

/-- A byte that holds a small number. -/
def num (n : Nat) : Byte := BitVec.ofNat 8 n

/-- A value's code: its place in the list of the values (R176). -/
def code {α : Type} [DecidableEq α] (values : List α) (a : α) : Byte := num (values.idxOf a)

/-- A number in k bytes, most significant first (R176). -/
def big (k n : Nat) : List Byte := (List.range k).map fun j => num (n / 256 ^ (k - 1 - j))

/-- A mask of one byte, bit 0 for the first (R176). -/
def bits (l : List Bool) : Byte := num (l.foldr (fun b m => (if b then 1 else 0) + 2 * m) 0)

/-- An optional item at its full width, all zero where it is absent (R177). -/
def optional (width : Nat) (o : Option (List Byte)) : List Byte := o.getD (List.replicate width 0)

/-- A time stamp (R176). -/
def stampBytes (t : Stamp) : List Byte := t.generation :: big 6 t.counter.toNat

/-- An ordered list of groups (R176). -/
def listBytes (l : List GroupId) : List Byte :=
  num l.length :: (List.range 8).map fun n => num ((l[n]?.map Fin.val).getD 0)

/-- An origin (R178). -/
def originBytes (t : Trigger) : List Byte :=
  [code [.link, .pin, .host] t.source] ++
    (match t.kind with
    | .channel c => [0, num (c.val + 1)]
    | .event e => [1, e]) ++ [num t.profile.val] ++ stampBytes t.stamp

/-- The four lanes of a set, L0 in bit 0 (R176). -/
def laneBits (l : LaneSet) : Byte := bits [l.l0, l.l1, l.l2, l.l3]

/-- The window kinds, in code order (R176). -/
def windowKinds : List WindowKind := [.pass, .stage, .guard, .closed]

/-- A window record's fields after enabled (R21, 9.6.2). -/
def windowBytes (w : Window) : List Byte :=
  big 4 w.base.toNat ++ big 4 w.size.toNat ++
    [code windowKinds w.kind, code [.any, .privilegedOnly] w.filter, num w.group.val, code [.memory, .forward] w.view,
      code [.keep, .merge] w.merge]

/-- The SET_WINDOW that writes a record. -/
def windowCommand (i : WindowId) (w : Window) : Instr :=
  .setWindow (num i.val) w.base w.size (code windowKinds w.kind) (code [.any, .privilegedOnly] w.filter) (num w.group.val)
    (code [.memory, .forward] w.view) (code [.keep, .merge] w.merge)

/-- A size and base that R18 accepts. -/
abbrev rangeGood (base size : BitVec 32) : Prop :=
  (∃ k ∈ List.range 20, size.toNat = 4096 * 2 ^ k) ∧ base.toNat % size.toNat = 0

/-- The window table with one record replaced. -/
def withWindow (s : State) (i : WindowId) (w : Window) : State :=
  { s with decoder := { s.decoder with windows := s.decoder.windows.set i.val w i.isLt } }

/-- A configuration whose values are all in range (R67, step 1; R176). -/
abbrev configGood (c : GroupConfig) : Prop :=
  c.delay ≤ 16777215 ∧ c.repeatCount ≤ 65535 ∧ 1 ≤ c.interval ∧ c.interval ≤ 16777215 ∧ 1 ≤ c.quota ∧ c.quota ≤ 512

/-- The argument bytes that carry a configuration (R176, 9.6.3). -/
def argsOf (c : GroupConfig) : GroupArgs where
  triggerSource := code [.channels, .event] c.triggerSource
  channelSet := c.channelSet
  matchCode := c.matchCode
  matchMask := c.matchMask
  profileSet := num c.profileSet.toNat
  armRequired := yesNo c.armRequired
  delay := BitVec.ofNat 24 c.delay
  mode := code [.once, .repeating] c.mode
  repeatCount := BitVec.ofNat 16 c.repeatCount
  interval := BitVec.ofNat 24 c.interval
  quota := BitVec.ofNat 16 c.quota
  faultPolicy := code [.skip, .halt] c.faultPolicy

/-- The group states, in code order (R176). -/
def groupStates : List GroupState := [.disabled, .collecting, .pending, .ready, .releasing, .interval, .held, .faulted]

/-- The batch outcomes, in code order (R176). -/
def outcomes : List BatchOutcome := [.complete, .completeFaults, .empty, .stopped, .purged]

/-- The time a timer still has to run (R48). -/
def remaining : Timer → Option Nat
  | .running n => some n
  | _ => none

/-- A group record with its derived counts (R72, R178). -/
def groupRecordBytes (s : State) (g : GroupId) : List Byte :=
  let r := s.groups[g]
  let c := r.config
  [bits [r.firstFault.isSome, r.origin.isSome, r.firstStart.isSome, r.lastStart.isSome, (remaining r.timer).isSome,
      r.lastMissed.isSome, r.lastOutcome.isSome]] ++
  [code [.channels, .event] c.triggerSource, c.channelSet, c.matchCode, c.matchMask, num c.profileSet.toNat,
      yesNo c.armRequired] ++ big 3 c.delay ++ [code [.once, .repeating] c.mode] ++ big 2 c.repeatCount ++ big 3 c.interval ++
    big 2 c.quota ++ [code [.skip, .halt] c.faultPolicy] ++
  [code groupStates r.state, yesNo r.armed] ++
  big 2 r.batchNumber.toNat ++ big 2 r.batchSize ++ big 2 r.position ++ big 2 r.repetitions ++
  [yesNo r.underway, yesNo r.late] ++ big 2 r.faults ++
  optional 4 (r.firstFault.map fun a => big 4 a.toNat) ++ optional 11 (r.origin.map originBytes) ++
  optional 7 (r.firstStart.map stampBytes) ++ optional 7 (r.lastStart.map stampBytes) ++
  optional 3 ((remaining r.timer).map (big 3)) ++ [num r.missed] ++
  optional 1 (r.lastMissed.map fun m => [code [.busy, .notArmed] m]) ++
  optional 1 (r.lastOutcome.map fun o => [code outcomes o]) ++
  big 2 (s.queue.entries.filter (fun e => e.group = g)).length ++
  big 2 (s.queue.entries.filter (fun e => inBatch g e)).length ++
  big 2 (s.queue.entries.filter (fun e => collects g e)).length

/-- An entry of the staging queue (R46, R178). -/
def entryBytes (e : Entry) : List Byte :=
  [num e.group.val] ++ big 4 e.word.toNat ++
    [bits [e.bytes.l0.isSome, e.bytes.l1.isSome, e.bytes.l2.isSome, e.bytes.l3.isSome], e.bytes.l0.getD 0, e.bytes.l1.getD 0,
      e.bytes.l2.getD 0, e.bytes.l3.getD 0, num e.window.val, code [.normal, .privileged] e.cls, yesNo e.mergeable] ++
    big 2 e.arrival.toNat ++ [code [.collecting, .batch] e.part]

/-- A completion record with the count of records (R179). -/
def completionBytes (c : Completion) (count : Nat) : List Byte :=
  [bits [c.firstStart.isSome, c.firstFault.isSome], num c.group.val] ++ big 2 c.batchNumber.toNat ++ [code outcomes c.outcome] ++
    optional 11 (c.origin.map originBytes) ++ optional 7 (c.firstStart.map stampBytes) ++ stampBytes c.endStamp ++
    big 2 c.batchSize ++ big 2 c.repetitions ++ big 4 c.writesOk ++ big 2 c.writesFaulted ++ big 2 c.unwritten ++
    optional 4 (c.firstFault.map fun a => big 4 a.toNat) ++ [num count]

/-- An event record with the count of records (R179). -/
def eventBytes (e : EventRecord) (count : Nat) : List Byte :=
  [e.code, num e.profile.val, code [.link, .pin, .host] e.source] ++ stampBytes e.stamp ++ [num count]

/-- The reasons of a refusal, in code order (R176). -/
def reasons : List RefusalReason :=
  [.defaultRefuse, .overlap, .cls, .guardWrite, .closed, .groupDisabled, .downstreamError, .downstreamTimeout]

/-- A captured refusal record (R158, R179). -/
def refusalBytes (r : RefusalRecord) : List Byte :=
  [bits [r.window.isSome]] ++ big 4 r.cycle.word.toNat ++
    [code [.read, .write] r.cycle.kind, code [.normal, .privileged] r.cycle.cls, laneBits r.cycle.lanes, code reasons r.reason,
      num ((r.window.map Fin.val).getD 0), yesNo r.further]

/-- The items of GET_STATUS (R160, R178). -/
def statusItems (s : State) : List Byte :=
  let current : Option GroupId :=
    match s.engine.phase with
    | .running g _ _ => some g
    | _ => none
  let i := s.inhibit.sources
  [bits [s.link.lastError.isSome, current.isSome], code [.down, .acquiring, .up] s.link.state] ++
    optional 1 (s.link.lastError.map fun e => [code [.check, .format] e]) ++
    [yesNo s.time.holdover, bits [i.link, i.linkLoss, i.pin, i.host], yesNo (i.link || i.linkLoss || i.pin || i.host)] ++
    big 2 s.queue.entries.length ++
    [yesNo s.queue.held.isSome,
      (match s.engine.phase with
      | .idle => 0
      | .running _ _ _ => 1
      | .draining => 2)] ++
    optional 1 (current.map fun g => [num g.val]) ++ listBytes s.ready ++ listBytes s.heldList ++
    [num s.report.completions.length, num s.report.events.length, yesNo s.report.refusal.isSome] ++
    big 2 s.report.causes.toNat ++ big 2 s.report.mask.toNat

/-- The items of GET_LINK (R121, R177, R178), with the carrier's code left open (log entry 9). -/
def linkItems (s : State) : List Byte :=
  let bad := s.link.history.map fun good => !good
  [bits [s.link.expected.isSome, s.link.lastError.isSome], code [.down, .acquiring, .up] s.link.state,
      Config.carrierCode s.link.carrier, num s.link.acquired, num s.link.history.length, bits bad,
      num (bad.filter id).length] ++
    optional 1 (s.link.expected.map fun q => [num q.toNat]) ++
    optional 1 (s.link.lastError.map fun e => [code [.check, .format] e]) ++
    [s.link.station, num (s.link.localChannel.val + 1), num s.link.localProfile.val]

/-- The items of GET_EPOCH (R131, R178). -/
def epochItems (s : State) : List Byte :=
  [bits [s.time.lastEpoch.isSome], s.time.generation] ++ big 6 s.time.counter.toNat ++
    [code [.localRef, .linkRef] s.time.source, yesNo s.time.holdover] ++
    optional 8 (s.time.lastEpoch.map fun e => code [.link, .pin, .host] e.source :: stampBytes e.stamp)

end Sys2Proof.Claims

open Sys2Proof Sys2Proof.Machine Sys2Proof.Claims

/-! ### The machine -/

/-- A step takes the command at the front of the queue and executes it on the rest; on an empty queue it takes the next clock period of
the management port, and where none waits the block idles (log entries 16, 22 and 29: the model's choices). -/
def Obligations.StepRunsFrontCommand : Prop :=
  (∀ (s : State) (c : Instr) (rest : List Instr),
    step { s with pending := c :: rest } = exec c { s with pending := rest }) ∧
  (∀ (s : State) (bit : Bool) (rest : List Bool), s.pending = [] →
    step { s with clocks := bit :: rest } = ({ s with clocks := rest } : State).clockPeriod bit) ∧
  ∀ s : State, s.pending = [] → s.clocks = [] → step s = .next s

/-- No command touches the queue of the commands that wait, nor the clock periods that wait (log entries 22 and 29: the model's
choices). -/
def Obligations.ExecKeepsWaitingCommands : Prop :=
  ∀ (c : Instr) (s t : State), exec c s = .next t → t.pending = s.pending ∧ t.clocks = s.clocks

/-- The only stop of the machine is a second upstream cycle (log entry 7); every other command answers a next state from every
state. -/
def Obligations.OnlySecondCycleStops : Prop :=
  ∀ (c : Instr) (s : State),
    (∃ t, exec c s = .next t) ∨
      (exec c s = .fault .secondUpstreamCycle ∧ (∃ addr kind cls lanes data, c = .upstreamCycle addr kind cls lanes data) ∧
        s.pins.rst = false ∧ (s.queue.held ≠ none ∨ s.upstream.host ≠ none))

/-- The values that a pin reset leaves, in the rules' tables (R5, R47, R73, R93, R97, R100, R122, R132, R141, R161). -/
def Obligations.ResetLeavesTabledValues : Prop :=
  (∀ i : WindowId, State.reset.decoder.windows[i] = ⟨false, 0, 0x1000#32, .pass, .any, 0, .memory, .keep⟩) ∧
  State.reset.queue = ⟨[], 0, none, .stopped, 50⟩ ∧
  (∀ g : GroupId, State.reset.groups[g] =
    { config := ⟨.channels, 0, 0, 255, 15, false, 0, .once, 1, 1000, 64, .halt⟩, state := .disabled, armed := false
      batchNumber := 0, batchSize := 0, position := 0, repetitions := 0, underway := false, late := false, faults := 0
      firstFault := none, origin := none, firstStart := none, lastStart := none, timer := .stopped, missed := 0
      lastMissed := none, lastOutcome := none }) ∧
  State.reset.ready = [] ∧ State.reset.heldList = [] ∧
  State.reset.engine.phase = .idle ∧ (∀ g : GroupId, State.reset.engine.tally[g] = 0) ∧
  State.reset.arbiter = ⟨.free, 0, 8, 64⟩ ∧ State.reset.upstream.host = none ∧
  State.reset.link = { State.reset.link with
    state := .down, carrier := false, carrierTimer := .stopped, inFrame := false, acquired := 0, history := []
    expected := none, lastError := none, localChannel := 0, localProfile := 0 } ∧
  State.reset.time = { State.reset.time with
    source := .localRef, supplier := .localRef, holdover := false, counter := 0, generation := 0, lastEpoch := none } ∧
  State.reset.inhibit.sources.link = false ∧ State.reset.inhibit.sources.linkLoss = false ∧
  State.reset.inhibit.sources.host = false ∧ State.reset.inhibit.onLinkLoss = false ∧
  State.reset.report = ⟨0, 0, [], [], none⟩ ∧
  State.reset.mgmt.phase = .idle ∧ State.reset.mgmt.pendingTake = none ∧ State.reset.mgmt.pendingReset = false

/-! ### The wire -/

/-- Every command of the table that has a message is read back from it; and where its bits are clocked in from the start of a
transaction, each byte most significant bit first, nothing but the port's own bytes and bits changes before the last bit, and the clock
period of the last bit executes the command (R163 to R166). Which row carries a refused PURGE, RESUME or LOCAL_FRAME code, and that the
bits come by the model's own list, are log entries 11 and 29, the model's choices. -/
def Obligations.MessageOfCommandIsReadBack : Prop :=
  ∀ i : Instr, i.wf = true → i.message ≠ [] →
    Instr.ofMessage i.message = some i ∧
    ∀ s : State, s.pending = [] → s.mgmt.select = true → inCommand s → s.mgmt.command = [] → s.mgmt.bitsIn = [] →
      ∃ (u : State) (bit : Bool),
        stepsTo (8 * i.message.length - 1) { s with clocks := wireBits i.message } u ∧
        u = { s with
          mgmt := { s.mgmt with command := i.message.dropLast, bitsIn := u.mgmt.bitsIn }, clocks := [bit] } ∧
        step u = exec i { u with clocks := [] }

/-- A message is read as a well-formed command, and that command's message is the message: no two messages are read alike. Which row
carries a refused PURGE, RESUME or LOCAL_FRAME code is log entry 11, the model's choice. -/
def Obligations.MessageReadIsTheCommandsOwn : Prop :=
  ∀ (msg : List Byte) (i : Instr), Instr.ofMessage msg = some i → i.wf = true ∧ i.message = msg

/-- The fields of a link frame stand at the places of 9.6.1, the first sent being the most significant, and its check is good when
the last eight bits are the check of the three bytes before them (R103). -/
def Obligations.FrameFieldsStandInSentOrder : Prop :=
  ∀ (station argument check : Byte) (kind : BitVec 3) (profile : BitVec 2) (sequence : BitVec 3) (bits : BitVec 32),
    bits = (station ++ kind ++ profile ++ argument ++ sequence ++ check : BitVec (8 + 3 + 2 + 8 + 3 + 8)) →
    FrameFields.ofBits bits = ⟨station, FrameKind.ofCode kind, profile.toFin, argument, sequence⟩ ∧
      ∀ b0 b1 b2 : Byte, bits = (b0 ++ b1 ++ b2 ++ check : BitVec (8 + 8 + 8 + 8)) →
        (LinkFrame.whole bits).checkGood = (crcBytes [b0, b1, b2] == check)

/-- A few messages and frames written out from the catalogue and the check of R103: GET_STATUS, SET_HOST_INHIBIT with yes, PURGE of
G2 with scope ALL, the all-zero message, a bad check, and the frame of zeros. -/
def Obligations.WrittenMessagesAreRead : Prop :=
  Instr.ofMessage [0x40, 0x00, 0x5B] = some .getStatus ∧
  Instr.ofMessage [0x33, 0x01, 0x01, 0x4E] = some (.setHostInhibit 1) ∧
  Instr.ofMessage [0x26, 0x02, 0x02, 0x01, 0x41] = some (.purgeAll 2) ∧
  Instr.ofMessage [0x00, 0x00, 0x00] = some (.badCommand [0x00, 0x00, 0x00]) ∧
  Instr.ofMessage [0x40, 0x00, 0x5A] = some (.checkError [0x40, 0x00, 0x5A]) ∧
  (LinkFrame.whole 0).checkGood = true

/-! ### Invariants -/

/-- The state after reset has every relation that the invariants below keep. -/
def Obligations.ResetStateIsGood : Prop :=
  State.reset.capacityOk ∧ State.reset.batchesOk ∧ State.reset.countsOk ∧ settled State.reset ∧ State.reset.armedOk ∧
    State.reset.linkOk ∧ State.reset.inhibitOk ∧ State.reset.portOk ∧ State.reset.transactionOk

/-- No step takes a queue over its places, or a group over its quota (R22, R24, R153, R155). -/
def Obligations.StepsKeepQueuesWithinPlaces : Prop :=
  ∀ s t : State, s.capacityOk → step s = .next t → t.capacityOk

/-- Every step keeps the lists in step with the groups' states, and the batches non-empty in exactly the states that have one (R50,
R59, R75). -/
def Obligations.StepsKeepListsAndBatches : Prop :=
  ∀ s t : State, s.batchesOk → step s = .next t → t.batchesOk

/-- Every step keeps the counts of the batches: in ONCE position plus batch entries queued is the batch size, in REPEAT the batch
entries are the batch size and the position is one of theirs; and with them it leaves no READY group to an idle engine and no request
at a FREE port (R49, R76, R90). -/
def Obligations.StepsLeaveNoWorkWaiting : Prop :=
  ∀ s t : State, s.batchesOk → s.countsOk → s.portOk → settled s → step s = .next t →
    t.countsOk ∧ settled t

/-- Every step keeps armed out of the groups that do not require arming and out of DISABLED ones (R69, R144). -/
def Obligations.StepsKeepArmedToArmableGroups : Prop :=
  ∀ s t : State, s.armedOk → step s = .next t → t.armedOk

/-- Every step keeps the link receiver and the time base in step (5.3, R105 to R107, R123). -/
def Obligations.StepsKeepLinkAndTimeBaseInStep : Prop :=
  ∀ s t : State, s.linkOk → step s = .next t → t.linkOk

/-- Every step keeps inhibit in force: while it is set no group is READY and no release request waits, while it is clear no group is
in the held list, and PIN follows the pin (R84, R135, R137 to R139); with it, under RST every step leaves the part as a pin reset left
it (R172, with the model's readings of log entries 6 and 20). -/
def Obligations.StepsKeepInhibitInForce : Prop :=
  ∀ s t : State, s.inhibitOk → step s = .next t → t.inhibitOk

/-- Every step keeps the port to one cycle that its source knows of (R75, R90, R91, R98). -/
def Obligations.StepsKeepOneDownstreamCycle : Prop :=
  ∀ s t : State, s.portOk → step s = .next t → t.portOk

/-! ### What only some commands do -/

/-- The rows that are a settled command message. -/
def Sys2Proof.Claims.isMessage (i : Instr) : Prop :=
  i.wire ≠ none ∨ (∃ msg, i = .checkError msg) ∨ ∃ msg, i = .badCommand msg

/-- The bytes of a response: the status code, the number of result bytes, the results, and their check (R167, R175). -/
def Sys2Proof.Claims.responseMessage (r : Reply) : List Byte :=
  let body :=
    code [.done, .empty, .badCommand, .badArgument, .wrongState, .checkError] r.status :: num r.results.length :: r.results
  body ++ [crcBytes body]

/-- In COMMAND every message is answered, with the result bytes of the catalogue for DONE and none for any other status; the response to
be sent is the status code, the number of result bytes, the results and their check, none of it sent yet (R165 to R167, R175); the lists
must be lists that the machine can hold. -/
def Obligations.EveryMessageIsAnswered : Prop :=
  ∀ (i : Instr) (s : State), isMessage i → inCommand s → s.listsOk →
    ∃ t r, exec i s = .next t ∧ t.mgmt.phase = .response ∧ t.mgmt.command = i.message ∧ t.mgmt.response = some r ∧
      t.mgmt.bitsIn = [] ∧ t.mgmt.sent = 0 ∧
      t.mgmt.responseBytes = responseMessage r ∧
      (r.status ≠ .done → r.results = []) ∧
      (r.status = .done → ∃ id args, i.wire = some (id, args) ∧ r.results.length =
        (match id.toNat with
        | 0x12 => 14 | 0x14 => 6 | 0x21 => 74 | 0x24 => 1 | 0x26 => 2 | 0x28 => 16 | 0x31 => 4 | 0x34 => 18 | 0x35 => 12
        | 0x40 => 36 | 0x42 => 2 | 0x43 => 47 | 0x44 => 11 | 0x45 => 11 | _ => 0))

/-- Outside COMMAND no message is read as a command, and in COMMAND a message that is refused or not accepted changes nothing in the
part but the port's own transaction (R164, R166). -/
def Obligations.UnreadAndRefusedMessagesChangeNothing : Prop :=
  (∀ (i : Instr) (s : State), isMessage i → s.mgmt.phase ≠ .command → exec i s = .next s) ∧
  ∀ (i : Instr) (s t : State) (status : Status), isMessage i → inCommand s → exec i s = .next t →
    t.mgmt.response = some ⟨status, []⟩ → status ≠ .done → t = s.reply i status []

/-- The LINK source is changed by the line alone, and by a pin reset or RESET_ALL (R133). -/
def Obligations.LinkSourceIsTheLinesAlone : Prop :=
  ∀ (c : Instr) (s t : State), exec c s = .next t → t.inhibit.sources.link ≠ s.inhibit.sources.link →
    (∃ f, c = .frameReceived f ∧ s.link.state = .up) ∨ c = .rstAsserted ∨
      (c = .selectReleased ∧ s.mgmt.pendingReset = true)

/-- A window record is changed by SET_WINDOW and SET_WINDOW_ENABLE of that window, a pin reset and RESET_ALL alone; the station code
and the DPOL latch by a release of RST alone (R5, R6, R18, R19, R120). -/
def Obligations.WindowsAndStrapsHaveFewWriters : Prop :=
  ∀ (c : Instr) (s t : State), exec c s = .next t →
    (∀ i : WindowId, t.decoder.windows[i] ≠ s.decoder.windows[i] →
      (∃ w base size kind filter group view merge, c = .setWindow w base size kind filter group view merge ∧
        w.toNat = i.val ∧ s.decoder.windows[i].enabled = false) ∨
      (∃ w v, c = .setWindowEnable w v ∧ w.toNat = i.val) ∨ c = .rstAsserted ∨
      (c = .selectReleased ∧ s.mgmt.pendingReset = true)) ∧
    (t.link.station ≠ s.link.station ∨ t.decoder.dpolLatch ≠ s.decoder.dpolLatch →
      ∃ stn dpol, c = .rstReleased stn dpol ∧ s.pins.rst = true)

/-- A group's configuration is changed by SET_GROUP of that group while it has no batch, a pin reset and RESET_ALL alone, so a batch
is released under the configuration that cut it (R67, R68, R73). -/
def Obligations.BatchesKeepTheirConfiguration : Prop :=
  ∀ (c : Instr) (s t : State) (g : GroupId), exec c s = .next t → t.groups[g].config ≠ s.groups[g].config →
    (∃ n args, c = .setGroup n args ∧ n.toNat = g.val ∧ (s.groups[g].state = .disabled ∨ s.groups[g].state = .collecting)) ∨
      c = .rstAsserted ∨ (c = .selectReleased ∧ s.mgmt.pendingReset = true)

/-! ### The bus path -/

/-- A refused cycle is answered ERROR, raises REFUSAL and goes into the refusal record, whatever its lanes, and nothing else changes; a
cycle with no lane that is not refused is answered DONE, a READ with zeros, and nothing else changes (R2, R7 to R11, R13, R15; a
WRITE's answer carries no data, log entry 27). -/
def Obligations.RefusedAndEmptyCyclesAreAnsweredAtOnce : Prop :=
  (∀ (s : State) (c : UCycle) (reason : RefusalReason) (w : Option WindowId), canArrive s → refusedBy s c reason w →
    exec (cycle c) s = .next (refused s c reason w)) ∧
  ∀ (s : State) (c : UCycle), canArrive s → noLane c →
    ((∃ w, passesThrough s c w) ∨ ∃ i, stagedThrough s c i ∨ forwardedThrough s c i) →
    exec (cycle c) s = .next (answered s (.done (if c.kind = .read then some ⟨0, 0, 0, 0⟩ else none)))

/-- A pass-through cycle, or a forwarding read with a lane its lookup does not cover, becomes the host path's request, which a FREE
port grants at once; a forwarding read with all four lanes covered is answered from the lookup, the newest byte for each lane, with
no request (R3, R7, R10, R12, R16, R38, R39, R91, R94). -/
def Obligations.ReadsAndPassThroughTakeTheirRoute : Prop :=
  (∀ (s : State) (c : UCycle) (w : Option WindowId) (r : Route), canArrive s → ¬ noLane c → takesRoute s c w r →
    exec (cycle c) s = .next (grants { s with upstream := ⟨some ⟨c, w, r, .waiting⟩, none⟩ })) ∧
  ∀ (s : State) (c : UCycle) (i : WindowId) (d : WordData), canArrive s → ¬ noLane c → forwardedThrough s c i →
    findsAll s s.decoder.windows[i].group (word c) ⟨some d.l0, some d.l1, some d.l2, some d.l3⟩ →
    exec (cycle c) s = .next (answered s (.done (some d)))

/-- A staged write merges into the entry it may merge into, whatever the space, or with none joins the tail where space exists with
the next arrival number; either way it is answered DONE at once and nothing else changes (R11, R23, R25 to R28). -/
def Obligations.StagedWritesMergeOrJoinTheTail : Prop :=
  ∀ (s : State) (c : UCycle) (i : WindowId), canArrive s → ¬ noLane c → stagedThrough s c i →
    (∀ (before : List Entry) (e : Entry) (after : List Entry), s.queue.entries = before ++ e :: after →
      mayMerge (written s c i) e → (∀ x ∈ before, ¬ mayMerge (written s c i) x) →
      exec (cycle c) s = .next { answered s (.done none) with
        queue := { s.queue with entries := before ++ merged (written s c i) e :: after } }) ∧
    ((∀ x ∈ s.queue.entries, ¬ mayMerge (written s c i) x) → space s (written s c i).group →
      exec (cycle c) s = .next { answered s (.done none) with
        queue := { s.queue with
          entries := s.queue.entries ++ [appended (written s c i) s.queue.arrival], arrival := s.queue.arrival + 1 } })

/-- With HOLD_LIMIT 0 a staged write that finds no space is answered RETRY, and nothing else changes (R30). -/
def Obligations.WriteWithoutSpaceIsRetried : Prop :=
  ∀ (s : State) (c : UCycle) (i : WindowId), canArrive s → ¬ noLane c → stagedThrough s c i →
    (∀ x ∈ s.queue.entries, ¬ mayMerge (written s c i) x) → ¬ space s (written s c i).group → s.queue.holdLimit = 0 →
    exec (cycle c) s = .next (answered s .retry)

/-- With HOLD_LIMIT 1 or more a staged write that finds no space becomes the held write with the values of its decode, unanswered, the
hold timer at HOLD_LIMIT and QUEUE_HOLD raised (R31). -/
def Obligations.WriteWithoutSpaceIsHeld : Prop :=
  ∀ (s : State) (c : UCycle) (i : WindowId), canArrive s → ¬ noLane c → stagedThrough s c i →
    (∀ x ∈ s.queue.entries, ¬ mayMerge (written s c i) x) → ¬ space s (written s c i).group → 1 ≤ s.queue.holdLimit →
    exec (cycle c) s = .next { s with
      upstream := ⟨none, none⟩
      queue := { s.queue with held := some (written s c i), holdTimer := .running s.queue.holdLimit }
      report := s.report.with .queueHold }

/-- The expiry of the hold timer answers RETRY, discards the held write and raises HOLD_EXPIRED; the rest of the queue, the refusal
record and every other piece of state are as they were (R33). -/
def Obligations.HoldExpiryAnswersRetry : Prop :=
  ∀ (s : State) (w : StagedWrite), s.queue.held = some w → s.queue.holdTimer = .due →
    exec .holdExpiry s = .next { s with
      queue := { s.queue with held := none, holdTimer := .stopped }
      upstream := { s.upstream with response := some .retry }
      report := s.report.with .holdExpired }

/-! ### The downstream port -/

/-- A response that comes while the port is FREE or RECOVERING changes nothing (R96). -/
def Obligations.UnawaitedResponsesAreDiscarded : Prop :=
  ∀ (s : State) (r : MemResponse), (s.arbiter.port = .free ∨ ∃ o, s.arbiter.port = .recovering o) →
    exec (.downstreamResponse r) s = .next s

/-- The host path's cycle ends: DONE is handed up with memory's bytes, or with the covered lanes of a forwarding read; ERROR and the
timeout refuse the upstream cycle, naming the window of its decode, the timeout with the port RECOVERING for the recorded time. What
waits then follows at the same event (R13, R14, R16, R39, R94, R95). -/
def Obligations.HostCyclesEndInDoneOrRefusal : Prop :=
  ∀ (s : State) (h : HostCycle) (o : Outstanding), s.arbiter.port = .busy .host o → s.upstream.host = some h →
    (∀ data, exec (.downstreamResponse (.done data)) s = .next (afterwards { s with
      upstream := ⟨none, some (hostAnswer h.cycle data h.route)⟩, arbiter := { s.arbiter with port := .free } })) ∧
    exec (.downstreamResponse .error) s = .next (afterwards { refused s h.cycle .downstreamError h.window with
      arbiter := { s.arbiter with port := .free } }) ∧
    (o.timer = .due → exec .downstreamTimeout s = .next (afterwards { refused s h.cycle .downstreamTimeout h.window with
      arbiter := { s.arbiter with port := .recovering { o with timer := .running o.recorded } } }))

/-- A release write that ends with DONE, or with a fault under SKIP, and leaves the repetition unfinished: an unmarked group asks for
its next entry, or under inhibit goes to the held list with its position; a group marked stopping ends its batch STOPPED (R78 to R80,
R82 cases 2 to 4, R83). -/
def Obligations.ReleaseWritesContinueTheRepetition : Prop :=
  ∀ (s : State) (g : GroupId) (stopping : Bool) (o : Outstanding) (how : WriteResult) (data : WordData),
    writeInFlight s g stopping o how → (how = .done ∨ s.groups[g].config.faultPolicy = .skip) →
    ¬ repetitionOver (passed (writeOver s g o how) g) g →
    exec (ending data how) s = .next (afterwards (
      let u := passed (writeOver s g o how) g
      if stopping = true then batchEnd (engineIdle u) g .stopped
      else if s.inhibited = true then
        { withGroup (engineIdle u) g { u.groups[g] with state := .held } with heldList := u.heldList ++ [g] }
      else { u with engine := { u.engine with phase := .running g false .waiting } }))

/-- A release write that ends with DONE, or with a fault under SKIP, and finishes the repetition: the repetition is counted, and the
batch ends COMPLETE or COMPLETE_FAULTS, or goes to INTERVAL, or after a late repetition raises REPEAT_LATE and goes on; a batch marked
stopping that would go on ends STOPPED (R61, R63, R82 case 1, R83). -/
def Obligations.ReleaseWritesEndTheRepetition : Prop :=
  ∀ (s : State) (g : GroupId) (stopping : Bool) (o : Outstanding) (how : WriteResult) (data : WordData),
    writeInFlight s g stopping o how → (how = .done ∨ s.groups[g].config.faultPolicy = .skip) →
    repetitionOver (passed (writeOver s g o how) g) g →
    exec (ending data how) s = .next (afterwards (
      let u := repetitionCounted (engineIdle (passed (writeOver s g o how) g)) g
      if lastRepetition u g then batchEnd u g (endOutcome u.groups[g])
      else if stopping = true then batchEnd (repeats u g) g .stopped
      else repeats u g))

/-- A fault under HALT takes the group to FAULTED with its entry, position and repetition kept, whatever the inhibit, and the engine to
IDLE; a group marked stopping ends its batch STOPPED instead (R79, R81, R83). -/
def Obligations.FaultsUnderHaltStopTheGroup : Prop :=
  ∀ (s : State) (g : GroupId) (stopping : Bool) (o : Outstanding) (how : WriteResult) (data : WordData),
    writeInFlight s g stopping o how → how ≠ .done → s.groups[g].config.faultPolicy = .halt →
    exec (ending data how) s = .next (afterwards (
      let u := engineIdle (writeOver s g o how)
      if stopping = true then batchEnd u g .stopped else withGroup u g { u.groups[g] with state := .faulted }))

/-- The port opens again at a response while it drains and at the end of a recovery: a DRAINING engine goes to IDLE, and what waits
follows at that event. The timeout of an abandoned cycle begins a recovery and is reported to nobody (R95, R99). -/
def Obligations.DrainsAndRecoveriesEnd : Prop :=
  ∀ (s : State) (o : Outstanding),
    let opened := afterwards { s with
      arbiter := { s.arbiter with port := .free }
      engine := { s.engine with phase := if s.engine.phase = .draining then .idle else s.engine.phase } }
    (s.arbiter.port = .draining o → ∀ r, exec (.downstreamResponse r) s = .next opened) ∧
    (s.arbiter.port = .draining o → o.timer = .due → exec .downstreamTimeout s = .next { s with
      arbiter := { s.arbiter with port := .recovering { o with timer := .running o.recorded } } }) ∧
    (s.arbiter.port = .recovering o → o.timer = .due → exec .recoveryExpiry s = .next opened)

/-! ### Timers -/

/-- The expiry of a delay in PENDING and of an interval in INTERVAL sends the group on to READY or HELD, and an idle engine takes it at
once; an interval that expires with the repetition underway makes the group late and moves nothing (R57, R64, R65, R76, R140). -/
def Obligations.GroupTimersExpire : Prop :=
  ∀ (s : State) (g : GroupId), s.groups[g].timer = .due →
    let u := withGroup s g { s.groups[g] with timer := .stopped }
    (s.groups[g].state = .pending → exec (.delayExpiry g) s = .next (afterwards (goesOn u g))) ∧
    (s.groups[g].state = .interval → exec (.intervalExpiry g) s = .next (afterwards (goesOn u g))) ∧
    (s.groups[g].underway = true → s.groups[g].state ∈ [.ready, .releasing, .held, .faulted] →
      exec (.late g) s = .next (withGroup s g { s.groups[g] with timer := .stopped, late := true }))

/-- A timer at a tick: the count falls by one, and is due at the tick that takes it to 0 (R127). -/
def Sys2Proof.Claims.ticked : Timer → Timer
  | .running n => if n ≤ 1 then .due else .running (n - 1)
  | t => t

/-- The tick counted: every timer and the epoch counter count it, and a change of supplier is taken (R123, R124, R127, R128). -/
def Sys2Proof.Claims.counted (s : State) : State :=
  { s with
    queue := { s.queue with holdTimer := ticked s.queue.holdTimer }
    groups := s.groups.map fun r => { r with timer := ticked r.timer }
    arbiter := { s.arbiter with
      port :=
        match s.arbiter.port with
        | .free => .free
        | .busy a o => .busy a { o with timer := ticked o.timer }
        | .recovering o => .recovering { o with timer := ticked o.timer }
        | .draining o => .draining { o with timer := ticked o.timer } }
    link := { s.link with carrierTimer := ticked s.link.carrierTimer }
    time := { s.time with counter := s.time.counter + 1, tickFrom := s.time.supplier } }

/-- Every expiry there is, in the order in which a TICK takes those still due (log entry 4). -/
def Sys2Proof.Claims.expiries : List Instr :=
  [.downstreamTimeout, .recoveryExpiry, .holdExpiry] ++
    ([0, 1, 2, 3, 4, 5, 6, 7] : List GroupId).flatMap (fun g => [.delayExpiry g, .intervalExpiry g, .late g]) ++ [.carrierLoss]

/-- A tick with no expiry left from the tick before: every timer and the epoch counter count it, a change of supplier is taken, and
nothing else changes. A tick with expiries left first takes them, as their own commands would in the order of log entry 4 (the model's
choice), and then counts. Under RST nothing counts (R123, R124, R127, R128; log entries 3, 4, 6 and 13). -/
def Obligations.TicksReachEveryTimer : Prop :=
  ∀ s : State,
    (s.pins.rst = true → exec .tick s = .next s) ∧
    (s.pins.rst = false → (∀ a o, s.arbiter.port = .busy a o → o.timer ≠ .due) →
      (∀ o, s.arbiter.port = .draining o ∨ s.arbiter.port = .recovering o → o.timer ≠ .due) → s.queue.holdTimer ≠ .due →
      (∀ g : GroupId, s.groups[g].timer ≠ .due) → s.link.carrierTimer ≠ .due →
      exec .tick s = .next (counted s)) ∧
    (s.pins.rst = false → ∃ u, runs expiries s u ∧ exec .tick s = .next (counted u))

/-- A command that names an event which cannot happen in the state, an expiry that is not due or whose group is in another state among
them, leaves the state as it is, and a cycle that comes while the one before it is unanswered stops the machine (log entries 5, 6, 7 and
19: the model's choices). -/
def Obligations.EventsThatCannotHappen : Prop :=
  ∀ s : State,
    ((∀ a o, s.arbiter.port = .busy a o ∨ s.arbiter.port = .draining o → o.timer ≠ .due) →
      exec .downstreamTimeout s = .next s) ∧
    ((∀ o, s.arbiter.port = .recovering o → o.timer ≠ .due) → exec .recoveryExpiry s = .next s) ∧
    (s.queue.held = none ∨ s.queue.holdTimer ≠ .due → exec .holdExpiry s = .next s) ∧
    (∀ g : GroupId,
      (s.groups[g].timer ≠ .due ∨ s.groups[g].state ≠ .pending → exec (.delayExpiry g) s = .next s) ∧
      (s.groups[g].timer ≠ .due ∨ s.groups[g].state ≠ .interval → exec (.intervalExpiry g) s = .next s) ∧
      (s.groups[g].timer ≠ .due ∨ s.groups[g].underway = false ∨
          s.groups[g].state ∉ [.ready, .releasing, .held, .faulted] → exec (.late g) s = .next s)) ∧
    (s.link.carrierTimer ≠ .due → exec .carrierLoss s = .next s) ∧
    (∀ f, s.link.inFrame = false → exec (.frameReceived f) s = .next s) ∧
    (s.link.carrier = false → exec .startMarker s = .next s) ∧
    (∀ stn dpol, s.pins.rst = false → exec (.rstReleased stn dpol) s = .next s) ∧
    (s.mgmt.select = true → exec .selectAsserted s = .next s) ∧
    (s.mgmt.phase ≠ .response → exec .responseSent s = .next s) ∧
    (s.pins.rst = true → exec .trigEdge s = .next s ∧ exec .carrierPresent s = .next s ∧ exec .lineTransition s = .next s ∧
      ∀ c, exec (cycle c) s = .next s) ∧
    (s.pins.rst = false → s.queue.held ≠ none ∨ s.upstream.host ≠ none →
      ∀ c, exec (cycle c) s = .fault .secondUpstreamCycle)

/-! ### The timing line -/

/-- A transition brings carrier and ACQUIRING with LINK_STATE, or with carrier present restarts its timer at 8; a start marker with
carrier begins a frame, and one in progress is received truncated first (R101, R102, R104, R109; log entry 18). -/
def Obligations.TransitionsAndMarkersMoveTheReceiver : Prop :=
  ∀ s : State,
    (∀ c, c = Instr.carrierPresent ∨ c = Instr.lineTransition → s.pins.rst = false →
      (s.link.carrier = false → exec c s = .next { s with
        link := { s.link with
          state := .acquiring, carrier := true, carrierTimer := .running 8, acquired := 0, history := [], expected := none }
        report := s.report.with .linkState }) ∧
      (s.link.carrier = true → exec c s = .next { s with link := { s.link with carrierTimer := .running 8 } })) ∧
    (s.link.carrier = true →
      (s.link.inFrame = false → exec .startMarker s = .next { s with link := { s.link with inFrame := true } }) ∧
      (s.link.inFrame = true → ∃ t, exec (.frameReceived .truncated) s = .next t ∧
        exec .startMarker s = .next { t with link := { t.link with inFrame := true } }))

/-- The loss of carrier takes the link to DOWN with LINK_STATE, its history, count and sequence gone and its last error and settings kept;
from UP with tick source LINK holdover begins; with INHIBIT_ON_LINK_LOSS set LINKLOSS joins the inhibit sources (R102, R108, R109,
R125, R134). -/
def Obligations.CarrierLossTakesTheLinkDown : Prop :=
  ∀ s : State, s.link.carrier = true → s.link.carrierTimer = .due →
    let lost := { s with
      link := { s.link with
        state := .down, carrier := false, carrierTimer := .stopped, inFrame := false, acquired := 0, history := []
        expected := none }
      report := s.report.with .linkState }
    let held := { lost with
      time := { s.time with supplier := .localRef, holdover := true }, report := lost.report.with .timebaseHoldover }
    let u := if s.link.state = .up ∧ s.time.source = .linkRef then held else lost
    exec .carrierLoss s = .next
      (if s.inhibit.onLinkLoss = true then sourcesBecome u { s.inhibit.sources with linkLoss := true } else u)

/-- The link record when a frame's result has joined the quality history, which keeps the newest eight (R106). -/
def Sys2Proof.Claims.judged (l : Link) (good : Bool) : Link :=
  { l with inFrame := false, history := ((good :: l.history.reverse).take 8).reverse }

/-- A frame in ACQUIRING is settled by its check alone: a good one counts, the fourth in a row takes the link to UP with four good results,
LINK_STATE, an end of holdover and of LINKLOSS; a bad one ends the run with LINK_ERROR. A bad frame in UP raises LINK_ERROR, and with
three bad results takes the link back to ACQUIRING, with holdover where the tick source is LINK (R101, R105 to R107, R109, R110, R125,
R134). -/
def Obligations.FramesMakeAndBreakTheLink : Prop :=
  ∀ (s : State) (f : LinkFrame), s.link.inFrame = true →
    (s.link.state = .acquiring → f.checkGood = true → s.link.acquired < 3 →
      exec (.frameReceived f) s = .next { s with
        link := { judged s.link true with acquired := s.link.acquired + 1 } }) ∧
    (s.link.state = .acquiring → f.checkGood = true → s.link.acquired = 3 →
      let u := { s with
        link := { s.link with
          state := .up, inFrame := false, acquired := 0, history := [true, true, true, true], expected := none }
        report := s.report.with .linkState
        time := if s.time.source = .linkRef then { s.time with supplier := .linkRef, holdover := false } else s.time }
      exec (.frameReceived f) s = .next (sourcesBecome u { s.inhibit.sources with linkLoss := false })) ∧
    (s.link.state = .acquiring → f.checkGood = false →
      exec (.frameReceived f) s = .next { s with
        link := { judged s.link false with acquired := 0, lastError := some .check }
        report := s.report.with .linkError }) ∧
    (s.link.state = .up → f.checkGood = false →
      let l := { judged s.link false with lastError := some .check }
      let stays := { s with link := l, report := s.report.with .linkError }
      let falls := { s with
        link := { l with state := .acquiring, acquired := 0, expected := none }
        report := (s.report.with .linkError).with .linkState }
      exec (.frameReceived f) s = .next
        (if (l.history.filter (fun good => !good)).length < 3 then stays
        else if s.time.source = .linkRef then
          { falls with
            time := { s.time with supplier := .localRef, holdover := true }, report := falls.report.with .timebaseHoldover }
        else falls))

/-- A frame with a good check in UP: it is recorded good and keeps the sequence in step, a gap raising FRAME_GAP; a frame for another
station does nothing more; one that fails the format test raises LINK_ERROR with FORMAT; any other acts on the block that owns its
kind, with source LINK and the stamp of this moment (R110 to R116; that a STOP settles every group before the idle engine takes one is
log entry 8, the model's reading). -/
def Obligations.GoodFramesInUpAreDispatched : Prop :=
  ∀ (s : State) (b : BitVec 32) (f : FrameFields), s.link.inFrame = true → s.link.state = .up →
    (LinkFrame.whole b).checkGood = true → f = FrameFields.ofBits b →
    let gap := s.link.expected ≠ none ∧ s.link.expected ≠ some f.sequence
    let u := { s with
      link := { judged s.link true with expected := some (f.sequence + 1) }
      report := if gap then s.report.with .frameGap else s.report }
    let mine := f.station = s.link.station ∨ f.station = 255
    (¬ mine → exec (.frameReceived (.whole b)) s = .next u) ∧
    (mine → ¬ wellFormatted f.kind f.argument → exec (.frameReceived (.whole b)) s = .next { u with
      link := { u.link with lastError := some .format }, report := u.report.with .linkError }) ∧
    (mine → wellFormatted f.kind f.argument →
      ∃ t, exec (.frameReceived (.whole b)) s = .next t ∧ acted u .link f.kind f.profile f.argument t)

/-! ### The pins -/

/-- A rising edge at TRIG offers all eight groups a trigger with source PIN, LOCAL_CHANNEL, LOCAL_PROFILE and the stamp of this moment,
in every link state; each group ignores, misses or takes it by its own state (R51 to R56, R58, R117). -/
def Obligations.TrigEdgesTriggerTheGroups : Prop :=
  ∀ s : State, s.pins.rst = false →
    ∃ t, exec .trigEdge s = .next t ∧
      triggered s ⟨.pin, .channel s.link.localChannel, s.link.localProfile, ⟨s.time.generation, s.time.counter⟩⟩ t

/-- The INH pin sets and clears PIN, and SET_HOST_INHIBIT sets and clears HOST; where effective inhibit changes with it, INHIBIT_CHANGE is
raised and the groups and the engine follow, and where it does not nothing else changes (R84, R135 to R139). -/
def Obligations.InhibitSourcesAreFollowed : Prop :=
  (∀ (s : State) (high : Bool),
    (s.pins.rst = false → exec (.inhChange high) s =
      .next (sourcesBecome { s with pins := { s.pins with inhHigh := high } } { s.inhibit.sources with pin := high })) ∧
    (s.pins.rst = true → exec (.inhChange high) s = .next { s with pins := { s.pins with inhHigh := high } })) ∧
  ∀ (s : State) (v : Byte), inCommand s →
    (∀ b, v = yesNo b →
      answers s (.setHostInhibit v) (sourcesBecome s { s.inhibit.sources with host := b }) .done []) ∧
    (1 < v.toNat → answers s (.setHostInhibit v) s .badArgument [])

/-- A pin reset sets every block as it is in State.reset, whatever came before, apart from what the release of RST samples, which is
kept until then, and the levels of the pins, data out being undriven; the release samples the straps and INH. A whole pin reset with
STN and DPOL low, INH low and select released leaves State.reset (R1, R5, R6, R47, R73, R100, R120, R122, R132, R141, R161, R172; log
entries 1, 2, 20 and 28). -/
def Obligations.PinResetsSetEveryBlock : Prop :=
  ∀ s : State,
    let t := { State.reset with
      decoder := { State.reset.decoder with policy := s.decoder.policy, dpolLatch := s.decoder.dpolLatch }
      link := { State.reset.link with station := s.link.station }
      mgmt := { State.reset.mgmt with select := s.mgmt.select }
      pins := ⟨true, s.pins.inhHigh⟩
      pending := s.pending
      clocks := s.clocks }
    exec .rstAsserted s = .next t ∧ t.dataOut = none ∧
    (∀ (stn : Byte) (dpol : Bool), s.pins.rst = true → exec (.rstReleased stn dpol) s = .next { s with
      decoder := { s.decoder with policy := if dpol = true then .pass else .refuse, dpolLatch := dpol }
      link := { s.link with station := stn }
      inhibit := { s.inhibit with sources := { s.inhibit.sources with pin := s.pins.inhHigh } }
      pins := ⟨false, s.pins.inhHigh⟩ }) ∧
    (s.pins.inhHigh = false → s.mgmt.select = false → s.pending = [] → s.clocks = [] →
      exec (.rstReleased 0 false) t = .next State.reset)

/-! ### Management transactions -/

/-- Every step keeps the transaction whole: with the select line released there is none, a pending TAKE waits for the response and a
pending RESET_ALL for the release of select; an incomplete byte group has fewer than eight bits, a message in COMMAND is not complete,
and a response is there in RESPONSE alone, with a byte still to send (R163 to R165, R168, R169). -/
def Obligations.StepsKeepTransactionsWhole : Prop :=
  ∀ s t : State, s.transactionOk → step s = .next t → t.transactionOk

/-- The byte that the port sends in the byte group underway; nothing where data out is undriven (R163, R164, R167). -/
def Sys2Proof.Claims.sends (s : State) : Option Byte → Prop
  | none => s.mgmt.select = false ∨ s.mgmt.phase = .idle
  | some b =>
    s.mgmt.select = true ∧
      ((s.mgmt.phase = .command ∨ s.mgmt.phase = .trailing) ∧ b = 0xFF ∨
        s.mgmt.phase = .response ∧ ∃ r, s.mgmt.response = some r ∧ (responseMessage r)[s.mgmt.sent]? = some b)

/-- The bit completes the byte group with this byte received (R163). -/
def Sys2Proof.Claims.completes (s : State) (bit : Bool) (b : Byte) : Prop :=
  s.mgmt.select = true ∧ s.mgmt.bitsIn ++ [bit] = wireBits [b]

/-- Select begins a transaction with no command byte stored, and under RST moves its level alone (log entry 6, the model's reading of
R172); the response sent whole takes the port to TRAILING; the release of select ends the transaction in any state, with nothing
executed and nothing taken, where no RESET_ALL is pending; a message with a bad check, or of no known command, is answered and executes
nothing. Data out carries the byte of the port's state, most significant bit first, and is undriven in IDLE and with select released,
when a clock period does nothing; eight clock periods are a byte group, whose byte is stored in COMMAND, or settles the message that it
completes, and counts as sent in RESPONSE, the last one ending the response (R163 to R167, R169, R172). -/
def Obligations.TransactionsBeginAndEnd : Prop :=
  ∀ s : State,
    (s.mgmt.select = false → s.pins.rst = false → exec .selectAsserted s = .next { s with
      mgmt := { s.mgmt with phase := .command, command := [], bitsIn := [], response := none, sent := 0, select := true } }) ∧
    (s.mgmt.select = false → s.pins.rst = true → exec .selectAsserted s = .next { s with
      mgmt := { s.mgmt with select := true } }) ∧
    (s.mgmt.phase = .response → s.mgmt.pendingTake = none → exec .responseSent s = .next { s with
      mgmt := { s.mgmt with phase := .trailing, bitsIn := [], response := none, sent := 0 } }) ∧
    (s.mgmt.pendingReset = false →
      exec .selectReleased s = .next { s with mgmt := ⟨.idle, [], [], none, 0, none, false, false⟩ }) ∧
    (∀ msg, inCommand s → answers s (.checkError msg) s .checkError [] ∧ answers s (.badCommand msg) s .badCommand []) ∧
    (sends s none → s.dataOut = none ∧ ∀ bit, s.clockPeriod bit = .next s) ∧
    (∀ b, sends s (some b) → s.dataOut = some (b.getMsbD s.mgmt.bitsIn.length)) ∧
    (s.mgmt.select = true → s.mgmt.phase ≠ .idle → s.mgmt.bitsIn.length < 7 → ∀ bit,
      s.clockPeriod bit = .next { s with mgmt := { s.mgmt with bitsIn := s.mgmt.bitsIn ++ [bit] } }) ∧
    (∀ bit b, completes s bit b → inCommand s →
      (∀ i, Instr.ofMessage (s.mgmt.command ++ [b]) = some i → s.clockPeriod bit = exec i s) ∧
      (Instr.ofMessage (s.mgmt.command ++ [b]) = none →
        s.clockPeriod bit = .next { s with mgmt := { s.mgmt with command := s.mgmt.command ++ [b], bitsIn := [] } })) ∧
    (∀ bit b r, completes s bit b → s.mgmt.phase = .response → s.mgmt.response = some r →
      (s.mgmt.sent + 1 < (responseMessage r).length →
        s.clockPeriod bit = .next { s with mgmt := { s.mgmt with bitsIn := [], sent := s.mgmt.sent + 1 } }) ∧
      (s.mgmt.sent + 1 = (responseMessage r).length → s.clockPeriod bit = exec .responseSent s)) ∧
    (∀ bit b, completes s bit b → s.mgmt.phase = .trailing →
      s.clockPeriod bit = .next { s with mgmt := { s.mgmt with bitsIn := [] } })

/-- A TAKE reads the head record and the count and marks itself pending, or finds an empty queue; the end of the response removes the head,
the release of select before it removes nothing (R153, R155 to R157, R179). -/
def Obligations.TakesRemoveTheHeadWhenSent : Prop :=
  ∀ s : State,
    (inCommand s → s.report.completions = [] → answers s .takeCompletion s .empty []) ∧
    (inCommand s → s.report.events = [] → answers s .takeEvent s .empty []) ∧
    (∀ c cs, inCommand s → s.report.completions = c :: cs →
      answers s .takeCompletion { s with mgmt := { s.mgmt with pendingTake := some .completions } } .done
        (completionBytes c (cs.length + 1))) ∧
    (∀ e es, inCommand s → s.report.events = e :: es →
      answers s .takeEvent { s with mgmt := { s.mgmt with pendingTake := some .events } } .done
        (eventBytes e (es.length + 1))) ∧
    (∀ q, s.mgmt.phase = .response → s.mgmt.pendingTake = some q →
      exec .responseSent s = .next { s with
        report := { s.report with
          completions := if q = .completions then s.report.completions.tail else s.report.completions
          events := if q = .events then s.report.events.tail else s.report.events }
        mgmt := { s.mgmt with phase := .trailing, bitsIn := [], response := none, sent := 0, pendingTake := none } } ∧
      (s.mgmt.pendingReset = false → ∃ t, exec .selectReleased s = .next t ∧ t.report = s.report))

/-! ### Settings and reads -/

/-- SET_WINDOW writes the record of a disabled window and refuses an enabled one; SET_WINDOW_ENABLE sets its enabled field; arguments that
have no meaning are refused first and change nothing (R18, R19). -/
def Obligations.WindowCommandsWriteOneRecord : Prop :=
  ∀ s : State, inCommand s →
    (∀ (i : WindowId) (w : Window), rangeGood w.base w.size →
      (s.decoder.windows[i].enabled = false →
        answers s (windowCommand i w) (withWindow s i { w with enabled := false }) .done []) ∧
      (s.decoder.windows[i].enabled = true → answers s (windowCommand i w) s .wrongState [])) ∧
    (∀ (n : Byte) (base size : BitVec 32) (kind filter group view merge : Byte),
      (15 < n.toNat ∨ ¬ rangeGood base size ∨ 3 < kind.toNat ∨ 1 < filter.toNat ∨ 7 < group.toNat ∨ 1 < view.toNat ∨
        1 < merge.toNat) →
      answers s (.setWindow n base size kind filter group view merge) s .badArgument []) ∧
    (∀ (i : WindowId) (b : Bool),
      answers s (.setWindowEnable (num i.val) (yesNo b)) (withWindow s i { s.decoder.windows[i] with enabled := b }) .done []) ∧
    (∀ n v : Byte, 15 < n.toNat ∨ 1 < v.toNat → answers s (.setWindowEnable n v) s .badArgument [])

/-- SET_PATH writes its four values, all or none; SET_TIMING writes its four, all or none, the tick source with its effect on supplier and
holdover, and INHIBIT_ON_LINK_LOSS, set to clear, taking LINKLOSS away (R6, R37, R93, R97, R118, R126, R134, R173, R174). -/
def Obligations.PathAndTimingSettingsAreWritten : Prop :=
  ∀ s : State, inCommand s →
    (∀ (p : Policy) (hold d : BitVec 16) (burst : Byte), 1 ≤ d.toNat → d.toNat ≤ 4095 →
      answers s (.setPath (code [.pass, .refuse] p) hold d burst)
        { s with
          decoder := { s.decoder with policy := p }
          queue := { s.queue with holdLimit := hold.toNat }
          arbiter := { s.arbiter with dTimeout := d.toNat, burstLimit := burst.toNat } } .done []) ∧
    (∀ (p : Byte) (hold d : BitVec 16) (burst : Byte), 1 < p.toNat ∨ d.toNat = 0 ∨ 4095 < d.toNat →
      answers s (.setPath p hold d burst) s .badArgument []) ∧
    (∀ (src : TickSource) (c : Channel) (p : Profile) (b : Bool),
      let up := s.link.state = .up
      let time : TimeBase :=
        if src = s.time.source then s.time
        else { s.time with
          source := src
          supplier := if src = .linkRef ∧ up then .linkRef else .localRef
          holdover := decide (src = .linkRef ∧ ¬ up) }
      let u := { s with
        link := { s.link with localChannel := c, localProfile := p }
        time := time
        inhibit := { s.inhibit with onLinkLoss := b }
        report := if src = .linkRef ∧ s.time.source = .localRef ∧ ¬ up then s.report.with .timebaseHoldover else s.report }
      answers s (.setTiming (code [.localRef, .linkRef] src) (num (c.val + 1)) (num p.val) (yesNo b))
        (if s.inhibit.onLinkLoss = true ∧ b = false then sourcesBecome u { s.inhibit.sources with linkLoss := false } else u)
        .done []) ∧
    (∀ src c p b : Byte, 1 < src.toNat ∨ c.toNat = 0 ∨ 8 < c.toNat ∨ 3 < p.toNat ∨ 1 < b.toNat →
      answers s (.setTiming src c p b) s .badArgument [])

/-- The reads return what stands at their acceptance, in the layouts of the catalogue, and change nothing (R21, R121, R131, R160, R173, R174,
R176 to R178; the carrier's code in GET_LINK is a free value, log entry 9). -/
def Obligations.ReadsReturnTheSettingsAndTheSummary : Prop :=
  ∀ s : State, inCommand s →
    (∀ i : WindowId, answers s (.getWindow (num i.val)) s .done
      (yesNo s.decoder.windows[i].enabled :: windowBytes s.decoder.windows[i])) ∧
    (∀ n : Byte, 15 < n.toNat → answers s (.getWindow n) s .badArgument []) ∧
    answers s .getPath s .done (code [.pass, .refuse] s.decoder.policy :: (big 2 s.queue.holdLimit ++
      big 2 s.arbiter.dTimeout ++ [num s.arbiter.burstLimit])) ∧
    answers s .getTiming s .done [code [.localRef, .linkRef] s.time.source, num (s.link.localChannel.val + 1),
      num s.link.localProfile.val, yesNo s.inhibit.onLinkLoss] ∧
    answers s .getEpoch s .done (epochItems s) ∧
    (s.link.history.length ≤ 8 → answers s .getLink s .done (linkItems s)) ∧
    (s.ready.length ≤ 8 → s.heldList.length ≤ 8 → answers s .getStatus s .done (statusItems s))

/-- GET_GROUP returns a group's record with its counts, READ_ENTRY the entry at an index of the group's entries or EMPTY past them; both change
nothing (R46, R48, R49, R72, in the layouts of R176 to R178; that a timer whose expiry is due reports no remaining time is log entry 3, the
model's reading). -/
def Obligations.GroupAndEntryReadsReturnTheRecord : Prop :=
  ∀ s : State, inCommand s →
    (∀ g : GroupId, answers s (.getGroup (num g.val)) s .done (groupRecordBytes s g)) ∧
    (∀ n : Byte, 7 < n.toNat → answers s (.getGroup n) s .badArgument []) ∧
    (∀ (g : GroupId) (index : BitVec 16) (e : Entry), index.toNat ≤ 511 →
      (s.queue.entries.filter (fun e => e.group = g))[index.toNat]? = some e →
      answers s (.readEntry (num g.val) index) s .done (entryBytes e)) ∧
    (∀ (g : GroupId) (index : BitVec 16), index.toNat ≤ 511 →
      (s.queue.entries.filter (fun e => e.group = g)).length ≤ index.toNat →
      answers s (.readEntry (num g.val) index) s .empty []) ∧
    (∀ (n : Byte) (index : BitVec 16), 7 < n.toNat ∨ 511 < index.toNat → answers s (.readEntry n index) s .badArgument [])

/-! ### Group commands -/

/-- SET_GROUP in DISABLED or COLLECTING, with values in range and a quota not below the entry count, writes the configuration and disarms
the group; where it changes the quota of the held write's group the queue tests for space. Bad values, another state and a low quota are
refused in that order (R32, R67, R68). -/
def Obligations.SetGroupWritesTheConfiguration : Prop :=
  ∀ s : State, inCommand s →
    (∀ (g : GroupId) (c : GroupConfig), configGood c →
      let old := s.groups[g]
      let idle := old.state = .disabled ∨ old.state = .collecting
      let count := (s.queue.entries.filter (fun e => e.group = g)).length
      let u := withGroup s g { old with config := c, armed := false }
      (¬ idle → answers s (.setGroup (num g.val) (argsOf c)) s .wrongState []) ∧
      (idle → c.quota < count → answers s (.setGroup (num g.val) (argsOf c)) s .badArgument []) ∧
      (idle → count ≤ c.quota → answers s (.setGroup (num g.val) (argsOf c))
        (if c.quota ≠ old.config.quota ∧ s.queue.held.map (·.group) = some g then spaceTested u else u) .done [])) ∧
    (∀ (n : Byte) (a : GroupArgs),
      (7 < n.toNat ∨ 1 < a.triggerSource.toNat ∨ 15 < a.profileSet.toNat ∨ 1 < a.armRequired.toNat ∨ 1 < a.mode.toNat ∨
        1 < a.faultPolicy.toNat ∨ a.interval.toNat = 0 ∨ a.quota.toNat = 0 ∨ 512 < a.quota.toNat) →
      answers s (.setGroup n a) s .badArgument [])

/-- ENABLE_GROUP takes a DISABLED group to COLLECTING, DISABLE_GROUP a COLLECTING one to DISABLED with its armed flag cleared and its held
write refused GROUP_DISABLED; any other state is refused. ARM arms the named groups that require arming and are not DISABLED, and answers
with those of the named that are armed (R34, R69, R70, R144). -/
def Obligations.EnableDisableAndArm : Prop :=
  ∀ s : State, inCommand s →
    (∀ g : GroupId,
      let old := s.groups[g]
      let off := withGroup s g { old with state := .disabled, armed := false }
      (old.state = .disabled →
        answers s (.enableGroup (num g.val)) (withGroup s g { old with state := .collecting }) .done []) ∧
      (old.state ≠ .disabled → answers s (.enableGroup (num g.val)) s .wrongState []) ∧
      (old.state = .collecting → s.queue.held.map (·.group) ≠ some g →
        answers s (.disableGroup (num g.val)) off .done []) ∧
      (∀ w, old.state = .collecting → s.queue.held = some w → w.group = g →
        answers s (.disableGroup (num g.val))
          { off with
            queue := { s.queue with held := none, holdTimer := .stopped }
            upstream := { s.upstream with response := some (.error none) }
            report := { s.report.with .refusal with
              refusal := some (match s.report.refusal with
                | none => ⟨⟨w.word, .write, w.cls, ⟨w.bytes.l0.isSome, w.bytes.l1.isSome, w.bytes.l2.isSome,
                    w.bytes.l3.isSome⟩⟩, .groupDisabled, some w.window, false⟩
                | some r => { r with further := true }) } } .done []) ∧
      (old.state ≠ .collecting → answers s (.disableGroup (num g.val)) s .wrongState [])) ∧
    (∀ n : Byte, 7 < n.toNat → answers s (.enableGroup n) s .badArgument [] ∧ answers s (.disableGroup n) s .badArgument []) ∧
    (∀ set : Byte,
      let after : GroupId → Group := fun g => if set.getLsbD g.val = true then armedNow s.groups[g] else s.groups[g]
      answers s (.arm set) { s with groups := Vector.ofFn after } .done
        [bits (groupIds.map fun g => set.getLsbD g.val && (after g).armed)])

/-- CLEAR_MISSED sets a group's missed count to 0 and its last missed reason to absent, in every state, and changes no other field; a group
number above 7 is refused (R71). -/
def Obligations.ClearMissedClearsTheCount : Prop :=
  ∀ (s : State), inCommand s →
    (∀ g : GroupId, answers s (.clearMissed (num g.val))
      (withGroup s g { s.groups[g] with missed := 0, lastMissed := none }) .done []) ∧
    ∀ n : Byte, 7 < n.toNat → answers s (.clearMissed n) s .badArgument []

/-- PURGE with scope COLLECTING removes the group's collecting entries in any state; with scope ALL all its entries, in DISABLED and
COLLECTING with no batch end, in FAULTED ending the batch PURGED; each answers the number removed, makes one test for a held write, and
PURGE ALL in another state, or an argument with no meaning, is refused (R32, R41, R44, R45, R62). That a scope with no code is
PURGE_COLLECTING's is log entry 11, that an empty removal makes its test too log entry 26: the model's choices. -/
def Obligations.PurgesRemoveAndCount : Prop :=
  ∀ s : State, inCommand s →
    (∀ g : GroupId, answers s (.purgeCollecting (num g.val) 0)
      (spaceTested { s with queue := { s.queue with entries := s.queue.entries.filter (fun e => ¬ collects g e) } }) .done
      (big 2 (s.queue.entries.filter (fun e => collects g e)).length)) ∧
    (∀ n scope : Byte, scope ≠ 1 → 7 < n.toNat ∨ scope ≠ 0 → answers s (.purgeCollecting n scope) s .badArgument []) ∧
    (∀ g : GroupId,
      let st := s.groups[g].state
      let left := { s with queue := { s.queue with entries := s.queue.entries.filter (fun e => e.group ≠ g) } }
      let removed := big 2 (s.queue.entries.filter (fun e => e.group = g)).length
      (st = .disabled ∨ st = .collecting → answers s (.purgeAll (num g.val)) (spaceTested left) .done removed) ∧
      (st = .faulted → answers s (.purgeAll (num g.val)) (afterwards (batchEnd left g .purged)) .done removed) ∧
      (st ∉ [.disabled, .collecting, .faulted] → answers s (.purgeAll (num g.val)) s .wrongState [])) ∧
    ∀ n : Byte, 7 < n.toNat → answers s (.purgeAll n) s .badArgument []

/-- RESUME with RETRY sends a FAULTED group on with its entry in place; with SKIP it passes the entry, and where that ends the repetition the
batch ends or repeats as after a write; in another state, or with an argument that has no meaning, it is refused (R61, R63, R85 to
R87). That a choice with no code is RESUME_RETRY's is log entry 11, the model's choice. -/
def Obligations.ResumeRetriesOrSkips : Prop :=
  ∀ s : State, inCommand s →
    (∀ g : GroupId, s.groups[g].state = .faulted →
      answers s (.resumeRetry (num g.val) 0) (afterwards (goesOn s g)) .done [] ∧
      answers s (.resumeSkip (num g.val))
        (afterwards (
          let u := passed s g
          let v := repetitionCounted u g
          if ¬ repetitionOver u g then goesOn u g
          else if lastRepetition v g then batchEnd v g (endOutcome v.groups[g])
          else repeats v g)) .done []) ∧
    (∀ g : GroupId, s.groups[g].state ≠ .faulted →
      answers s (.resumeRetry (num g.val) 0) s .wrongState [] ∧ answers s (.resumeSkip (num g.val)) s .wrongState []) ∧
    (∀ n choice : Byte, choice ≠ 1 → 7 < n.toNat ∨ choice ≠ 0 → answers s (.resumeRetry n choice) s .badArgument []) ∧
    ∀ n : Byte, 7 < n.toNat → answers s (.resumeSkip n) s .badArgument []

/-! ### Local frames, reports and resets -/

/-- An accepted LOCAL_FRAME acts at once as a dispatched frame of its kind with source HOST, whatever the link state; a kind, profile or
argument with no meaning, INHIBIT and UNINHIBIT among the kinds, is refused and does nothing (R114 to R116, R119, R129, R142 to R147). That
a STOP settles every group before the idle engine takes one is log entry 8, that a refused kind is LOCAL_FRAME_TRIGGER's log entry 11: the
model's choices. -/
def Obligations.LocalFramesActAsDispatchedFrames : Prop :=
  ∀ s : State, inCommand s →
    (∀ (i : Instr) (kind : FrameKind) (p : Profile) (a : Byte),
      (i, kind) ∈ [(Instr.localFrameTrigger 0 (num p.val) a, FrameKind.trigger), (.localFrameEvent (num p.val) a, .event),
        (.localFrameSetup (num p.val) a, .setup), (.localFrameStop (num p.val) a, .stop),
        (.localFrameEpoch (num p.val) a, .epoch)] →
      wellFormatted kind a →
      ∃ t, acted s .host kind p a t ∧ answers s i t .done []) ∧
    (∀ kind p a : Byte, kind.toNat ∉ [1, 4, 5, 6] → kind ≠ 0 ∨ 3 < p.toNat ∨ a = 0 ∨ 8 < a.toNat →
      answers s (.localFrameTrigger kind p a) s .badArgument []) ∧
    (∀ p a : Byte,
      (3 < p.toNat → answers s (.localFrameEvent p a) s .badArgument [] ∧ answers s (.localFrameEpoch p a) s .badArgument []) ∧
      (3 < p.toNat ∨ 8 < a.toNat →
        answers s (.localFrameSetup p a) s .badArgument [] ∧ answers s (.localFrameStop p a) s .badArgument []))

/-- SET_MASK replaces the mask; CLEAR_CAUSES takes the named causes out of the set and answers with what is left. In every state, so after
each of them too, IRQ stands exactly where RST is released and a pending cause is in the mask; a pin reset and RESET_ALL leave the mask
empty (R151, R152). -/
def Obligations.MaskAndCausesAreWritten : Prop :=
  ∀ s : State,
    (∀ set : BitVec 16, inCommand s →
      answers s (.setMask set) { s with report := { s.report with mask := set } } .done [] ∧
      answers s (.clearCauses set) { s with report := { s.report with causes := s.report.causes &&& ~~~set } } .done
        (big 2 (s.report.causes &&& ~~~set).toNat)) ∧
    (s.irq = true ↔ s.pins.rst = false ∧ ∃ n < 16, s.report.causes.getLsbD n = true ∧ s.report.mask.getLsbD n = true) ∧
    ∀ c t, c = .rstAsserted ∨ (c = .selectReleased ∧ s.mgmt.pendingReset = true) → exec c s = .next t → t.report.mask = 0

/-- GET_REFUSAL returns the record or EMPTY and changes nothing; CLEAR_REFUSAL empties it and leaves the REFUSAL cause, so that the next
refusal is captured afresh (R15, R158, R159). -/
def Obligations.RefusalRecordIsReadAndEmptied : Prop :=
  ∀ s : State, inCommand s →
    (s.report.refusal = none → answers s .getRefusal s .empty []) ∧
    (∀ r, s.report.refusal = some r → answers s .getRefusal s .done (refusalBytes r)) ∧
    answers s .clearRefusal { s with report := { s.report with refusal := none } } .done [] ∧
    ∀ t c reason w, exec .clearRefusal s = .next t → canArrive t → refusedBy t c reason w →
      ∃ v, exec (cycle c) t = .next v ∧
        v.report.refusal = some ⟨⟨word c, c.kind, c.cls, c.lanes⟩, reason, w, false⟩

/-- The upstream side when a reset command takes effect: an unanswered cycle is answered RETRY (R17, R35, R40). -/
def Sys2Proof.Claims.retried (s : State) : Upstream :=
  if s.queue.held ≠ none ∨ s.upstream.host ≠ none then ⟨none, some .retry⟩ else s.upstream

/-- The port when a reset command takes effect: a BUSY cycle is abandoned to drain with its timer as it stands (R98). -/
def Sys2Proof.Claims.drained (p : PortState) : PortState :=
  match p with
  | .busy _ o => .draining o
  | _ => p

/-- The engine when a reset command takes effect (R98). -/
def Sys2Proof.Claims.emptied (s : State) : Engine :=
  ⟨if s.arbiter.port = .free then .idle else .draining, Vector.replicate 8 0⟩

/-- RESET_DATAPATH empties the queue, the lists and the batches, answers a waiting cycle RETRY, drains the port and keeps every setting, the
windows, the link, the time base, the inhibit sources, the reports and the arrival counter (R17, R35, R40, R47, R74, R98, R170). -/
def Obligations.ResetDatapathEmptiesTheDataPath : Prop :=
  ∀ s : State, inCommand s →
    answers s .resetDatapath
      { s with
        upstream := retried s
        queue := { s.queue with entries := [], held := none, holdTimer := .stopped }
        groups := s.groups.map fun r =>
          { r with
            state := if r.state = .disabled then .disabled else .collecting
            armed := false, batchSize := 0, position := 0, repetitions := 0, underway := false, late := false, faults := 0
            firstFault := none, origin := none, firstStart := none, lastStart := none, timer := .stopped, missed := 0
            lastMissed := none }
        ready := []
        heldList := []
        engine := emptied s
        arbiter := { s.arbiter with port := drained s.arbiter.port, burst := 0 } } .done []

/-- RESET_ALL answers DONE and waits; at the release of select every block is as in State.reset, but for the strapped policy and station code,
the PIN source, a waiting cycle answered RETRY and a port that drains (R5, R6, R47, R73, R98, R100, R122, R132, R141, R161, R171). -/
def Obligations.ResetAllTakesEffectAtTheRelease : Prop :=
  ∀ s : State,
    (inCommand s → answers s .resetAll { s with mgmt := { s.mgmt with pendingReset := true } } .done []) ∧
    (s.mgmt.pendingReset = true → exec .selectReleased s = .next { State.reset with
      decoder := { State.reset.decoder with
        policy := if s.decoder.dpolLatch = true then .pass else .refuse, dpolLatch := s.decoder.dpolLatch }
      upstream := retried s
      engine := emptied s
      arbiter := { State.reset.arbiter with port := drained s.arbiter.port }
      link := { State.reset.link with station := s.link.station }
      inhibit := { State.reset.inhibit with sources := ⟨false, false, s.inhibit.sources.pin, false⟩ }
      pins := s.pins
      pending := s.pending
      clocks := s.clocks })
end

