-- ==== Sys2Proof/Laws/State.lean ====
section
/-! SUPPORT. One lemma for each field under each named update of the state, true by rfl: what an update leaves, and what it sets. No
later proof unfolds a record update. -/

namespace Sys2Proof.Machine

/-! ### Group and link records -/

@[simp] theorem Group.enter_keeps (st : GroupState) (g : Group) :
    (g.enter st).config = g.config ∧ (g.enter st).armed = g.armed ∧ (g.enter st).batchNumber = g.batchNumber ∧
    (g.enter st).batchSize = g.batchSize ∧ (g.enter st).position = g.position ∧ (g.enter st).repetitions = g.repetitions ∧
    (g.enter st).underway = g.underway ∧ (g.enter st).late = g.late ∧ (g.enter st).faults = g.faults ∧
    (g.enter st).firstFault = g.firstFault ∧ (g.enter st).origin = g.origin ∧ (g.enter st).firstStart = g.firstStart ∧
    (g.enter st).lastStart = g.lastStart ∧ (g.enter st).timer = g.timer ∧ (g.enter st).missed = g.missed ∧
    (g.enter st).lastMissed = g.lastMissed ∧ (g.enter st).lastOutcome = g.lastOutcome := by
  simp [Group.enter]

@[simp] theorem Group.take_keeps (now : Stamp) (g : Group) :
    (g.take now).config = g.config ∧ (g.take now).armed = g.armed ∧ (g.take now).batchNumber = g.batchNumber ∧
    (g.take now).batchSize = g.batchSize ∧ (g.take now).position = g.position ∧ (g.take now).repetitions = g.repetitions ∧
    (g.take now).late = g.late ∧ (g.take now).faults = g.faults ∧ (g.take now).firstFault = g.firstFault ∧
    (g.take now).origin = g.origin ∧ (g.take now).missed = g.missed ∧ (g.take now).lastMissed = g.lastMissed ∧
    (g.take now).lastOutcome = g.lastOutcome := by
  simp only [Group.take]; split <;> simp

@[simp] theorem Group.endBatch_keeps (outcome : BatchOutcome) (g : Group) :
    (g.endBatch outcome).config = g.config ∧ (g.endBatch outcome).armed = g.armed ∧
    (g.endBatch outcome).batchNumber = g.batchNumber ∧ (g.endBatch outcome).missed = g.missed ∧
    (g.endBatch outcome).lastMissed = g.lastMissed := by
  simp [Group.endBatch]

@[simp] theorem Group.countRepetition_keeps (g : Group) :
    (g.countRepetition).config = g.config ∧ (g.countRepetition).state = g.state ∧ (g.countRepetition).armed = g.armed ∧
    (g.countRepetition).batchNumber = g.batchNumber ∧ (g.countRepetition).batchSize = g.batchSize ∧
    (g.countRepetition).position = g.position ∧ (g.countRepetition).late = g.late ∧
    (g.countRepetition).faults = g.faults ∧ (g.countRepetition).firstFault = g.firstFault ∧
    (g.countRepetition).origin = g.origin ∧ (g.countRepetition).firstStart = g.firstStart ∧
    (g.countRepetition).lastStart = g.lastStart ∧ (g.countRepetition).timer = g.timer ∧
    (g.countRepetition).missed = g.missed ∧ (g.countRepetition).lastMissed = g.lastMissed ∧
    (g.countRepetition).lastOutcome = g.lastOutcome := by
  simp [Group.countRepetition]

@[simp] theorem Group.countFault_keeps (word : Addr) (g : Group) :
    (g.countFault word).config = g.config ∧ (g.countFault word).state = g.state ∧ (g.countFault word).armed = g.armed ∧
    (g.countFault word).batchNumber = g.batchNumber ∧ (g.countFault word).batchSize = g.batchSize ∧
    (g.countFault word).position = g.position ∧ (g.countFault word).repetitions = g.repetitions ∧
    (g.countFault word).underway = g.underway ∧ (g.countFault word).late = g.late ∧
    (g.countFault word).origin = g.origin ∧ (g.countFault word).firstStart = g.firstStart ∧
    (g.countFault word).lastStart = g.lastStart ∧ (g.countFault word).timer = g.timer ∧
    (g.countFault word).missed = g.missed ∧ (g.countFault word).lastMissed = g.lastMissed ∧
    (g.countFault word).lastOutcome = g.lastOutcome := by
  simp [Group.countFault]

@[simp] theorem Group.miss_keeps (reason : MissedReason) (g : Group) :
    (g.miss reason).config = g.config ∧ (g.miss reason).state = g.state ∧ (g.miss reason).armed = g.armed ∧
    (g.miss reason).batchNumber = g.batchNumber ∧ (g.miss reason).batchSize = g.batchSize ∧
    (g.miss reason).position = g.position ∧ (g.miss reason).repetitions = g.repetitions ∧
    (g.miss reason).underway = g.underway ∧ (g.miss reason).late = g.late ∧ (g.miss reason).faults = g.faults ∧
    (g.miss reason).firstFault = g.firstFault ∧ (g.miss reason).origin = g.origin ∧
    (g.miss reason).firstStart = g.firstStart ∧ (g.miss reason).lastStart = g.lastStart ∧
    (g.miss reason).timer = g.timer ∧ (g.miss reason).lastOutcome = g.lastOutcome := by
  simp [Group.miss]

@[simp] theorem Group.cut_keeps (t : Trigger) (size : Nat) (g : Group) :
    (g.cut t size).config = g.config ∧ (g.cut t size).state = g.state ∧ (g.cut t size).timer = g.timer ∧
    (g.cut t size).missed = g.missed ∧ (g.cut t size).lastMissed = g.lastMissed ∧
    (g.cut t size).lastOutcome = g.lastOutcome := by
  simp [Group.cut]

@[simp] theorem Group.arm_keeps (g : Group) :
    (g.arm).config = g.config ∧ (g.arm).state = g.state ∧ (g.arm).batchNumber = g.batchNumber ∧
    (g.arm).batchSize = g.batchSize ∧ (g.arm).position = g.position ∧ (g.arm).repetitions = g.repetitions ∧
    (g.arm).underway = g.underway ∧ (g.arm).late = g.late ∧ (g.arm).faults = g.faults ∧
    (g.arm).firstFault = g.firstFault ∧ (g.arm).origin = g.origin ∧ (g.arm).firstStart = g.firstStart ∧
    (g.arm).lastStart = g.lastStart ∧ (g.arm).timer = g.timer ∧ (g.arm).missed = g.missed ∧
    (g.arm).lastMissed = g.lastMissed ∧ (g.arm).lastOutcome = g.lastOutcome := by
  simp only [Group.arm]; split <;> simp

@[simp] theorem Group.disarmBy_keeps (choice : ChannelChoice) (p : Profile) (g : Group) :
    (g.disarmBy choice p).config = g.config ∧ (g.disarmBy choice p).state = g.state ∧
    (g.disarmBy choice p).batchNumber = g.batchNumber ∧ (g.disarmBy choice p).batchSize = g.batchSize ∧
    (g.disarmBy choice p).position = g.position ∧ (g.disarmBy choice p).repetitions = g.repetitions ∧
    (g.disarmBy choice p).underway = g.underway ∧ (g.disarmBy choice p).late = g.late ∧
    (g.disarmBy choice p).faults = g.faults ∧ (g.disarmBy choice p).firstFault = g.firstFault ∧
    (g.disarmBy choice p).origin = g.origin ∧ (g.disarmBy choice p).firstStart = g.firstStart ∧
    (g.disarmBy choice p).lastStart = g.lastStart ∧ (g.disarmBy choice p).timer = g.timer ∧
    (g.disarmBy choice p).missed = g.missed ∧ (g.disarmBy choice p).lastMissed = g.lastMissed ∧
    (g.disarmBy choice p).lastOutcome = g.lastOutcome := by
  simp only [Group.disarmBy]; split <;> simp

@[simp] theorem Group.stopTimer_keeps (g : Group) :
    (g.stopTimer).config = g.config ∧ (g.stopTimer).state = g.state ∧ (g.stopTimer).armed = g.armed ∧
    (g.stopTimer).batchNumber = g.batchNumber ∧ (g.stopTimer).batchSize = g.batchSize ∧
    (g.stopTimer).position = g.position ∧ (g.stopTimer).repetitions = g.repetitions ∧
    (g.stopTimer).underway = g.underway ∧ (g.stopTimer).late = g.late ∧ (g.stopTimer).faults = g.faults ∧
    (g.stopTimer).firstFault = g.firstFault ∧ (g.stopTimer).origin = g.origin ∧ (g.stopTimer).firstStart = g.firstStart ∧
    (g.stopTimer).lastStart = g.lastStart ∧ (g.stopTimer).missed = g.missed ∧ (g.stopTimer).lastMissed = g.lastMissed ∧
    (g.stopTimer).lastOutcome = g.lastOutcome := by
  simp [Group.stopTimer]

@[simp] theorem Group.configure_keeps (c : GroupConfig) (g : Group) :
    (g.configure c).state = g.state ∧ (g.configure c).batchNumber = g.batchNumber ∧
    (g.configure c).batchSize = g.batchSize ∧ (g.configure c).position = g.position ∧
    (g.configure c).repetitions = g.repetitions ∧ (g.configure c).underway = g.underway ∧ (g.configure c).late = g.late ∧
    (g.configure c).faults = g.faults ∧ (g.configure c).firstFault = g.firstFault ∧ (g.configure c).origin = g.origin ∧
    (g.configure c).firstStart = g.firstStart ∧ (g.configure c).lastStart = g.lastStart ∧
    (g.configure c).timer = g.timer ∧ (g.configure c).missed = g.missed ∧ (g.configure c).lastMissed = g.lastMissed ∧
    (g.configure c).lastOutcome = g.lastOutcome := by
  simp [Group.configure]

@[simp] theorem Group.disable_keeps (g : Group) :
    (g.disable).config = g.config ∧ (g.disable).batchNumber = g.batchNumber ∧ (g.disable).batchSize = g.batchSize ∧
    (g.disable).position = g.position ∧ (g.disable).repetitions = g.repetitions ∧ (g.disable).underway = g.underway ∧
    (g.disable).late = g.late ∧ (g.disable).faults = g.faults ∧ (g.disable).firstFault = g.firstFault ∧
    (g.disable).origin = g.origin ∧ (g.disable).firstStart = g.firstStart ∧ (g.disable).lastStart = g.lastStart ∧
    (g.disable).timer = g.timer ∧ (g.disable).missed = g.missed ∧ (g.disable).lastMissed = g.lastMissed ∧
    (g.disable).lastOutcome = g.lastOutcome := by
  simp [Group.disable]

@[simp] theorem Group.resetDatapath_keeps (g : Group) :
    (g.resetDatapath).config = g.config ∧ (g.resetDatapath).batchNumber = g.batchNumber ∧
    (g.resetDatapath).lastOutcome = g.lastOutcome := by
  simp [Group.resetDatapath]

@[simp] theorem Link.lose_keeps (l : Link) :
    (l.lose).lastError = l.lastError ∧ (l.lose).station = l.station ∧ (l.lose).localChannel = l.localChannel ∧
    (l.lose).localProfile = l.localProfile := by
  simp [Link.lose]

@[simp] theorem Link.record_keeps (good : Bool) (l : Link) :
    (l.record good).state = l.state ∧ (l.record good).carrier = l.carrier ∧
    (l.record good).carrierTimer = l.carrierTimer ∧ (l.record good).inFrame = l.inFrame ∧
    (l.record good).acquired = l.acquired ∧ (l.record good).expected = l.expected ∧
    (l.record good).lastError = l.lastError ∧ (l.record good).station = l.station ∧
    (l.record good).localChannel = l.localChannel ∧ (l.record good).localProfile = l.localProfile := by
  simp [Link.record]

/-! ### The state -/

variable (s : State)

/-! `raise` -/

@[simp] theorem State.raise_decoder (c : Cause) : (s.raise c).decoder = s.decoder := rfl
@[simp] theorem State.raise_upstream (c : Cause) : (s.raise c).upstream = s.upstream := rfl
@[simp] theorem State.raise_queue (c : Cause) : (s.raise c).queue = s.queue := rfl
@[simp] theorem State.raise_groups (c : Cause) : (s.raise c).groups = s.groups := rfl
@[simp] theorem State.raise_ready (c : Cause) : (s.raise c).ready = s.ready := rfl
@[simp] theorem State.raise_heldList (c : Cause) : (s.raise c).heldList = s.heldList := rfl
@[simp] theorem State.raise_engine (c : Cause) : (s.raise c).engine = s.engine := rfl
@[simp] theorem State.raise_arbiter (c : Cause) : (s.raise c).arbiter = s.arbiter := rfl
@[simp] theorem State.raise_link (c : Cause) : (s.raise c).link = s.link := rfl
@[simp] theorem State.raise_time (c : Cause) : (s.raise c).time = s.time := rfl
@[simp] theorem State.raise_inhibit (c : Cause) : (s.raise c).inhibit = s.inhibit := rfl
@[simp] theorem State.raise_report_mask (c : Cause) : (s.raise c).report.mask = s.report.mask := rfl
@[simp] theorem State.raise_report_completions (c : Cause) : (s.raise c).report.completions = s.report.completions := rfl
@[simp] theorem State.raise_report_events (c : Cause) : (s.raise c).report.events = s.report.events := rfl
@[simp] theorem State.raise_report_refusal (c : Cause) : (s.raise c).report.refusal = s.report.refusal := rfl
@[simp] theorem State.raise_mgmt (c : Cause) : (s.raise c).mgmt = s.mgmt := rfl
@[simp] theorem State.raise_pins (c : Cause) : (s.raise c).pins = s.pins := rfl
@[simp] theorem State.raise_pending (c : Cause) : (s.raise c).pending = s.pending := rfl
@[simp] theorem State.raise_clocks (c : Cause) : (s.raise c).clocks = s.clocks := rfl
@[simp] theorem State.raise_report (c : Cause) : (s.raise c).report = { s.report with causes := s.report.causes ||| c.set } := rfl

/-! `answer` -/

@[simp] theorem State.answer_decoder (r : UResponse) : (s.answer r).decoder = s.decoder := rfl
@[simp] theorem State.answer_upstream_host (r : UResponse) : (s.answer r).upstream.host = s.upstream.host := rfl
@[simp] theorem State.answer_queue (r : UResponse) : (s.answer r).queue = s.queue := rfl
@[simp] theorem State.answer_groups (r : UResponse) : (s.answer r).groups = s.groups := rfl
@[simp] theorem State.answer_ready (r : UResponse) : (s.answer r).ready = s.ready := rfl
@[simp] theorem State.answer_heldList (r : UResponse) : (s.answer r).heldList = s.heldList := rfl
@[simp] theorem State.answer_engine (r : UResponse) : (s.answer r).engine = s.engine := rfl
@[simp] theorem State.answer_arbiter (r : UResponse) : (s.answer r).arbiter = s.arbiter := rfl
@[simp] theorem State.answer_link (r : UResponse) : (s.answer r).link = s.link := rfl
@[simp] theorem State.answer_time (r : UResponse) : (s.answer r).time = s.time := rfl
@[simp] theorem State.answer_inhibit (r : UResponse) : (s.answer r).inhibit = s.inhibit := rfl
@[simp] theorem State.answer_report (r : UResponse) : (s.answer r).report = s.report := rfl
@[simp] theorem State.answer_mgmt (r : UResponse) : (s.answer r).mgmt = s.mgmt := rfl
@[simp] theorem State.answer_pins (r : UResponse) : (s.answer r).pins = s.pins := rfl
@[simp] theorem State.answer_pending (r : UResponse) : (s.answer r).pending = s.pending := rfl
@[simp] theorem State.answer_clocks (r : UResponse) : (s.answer r).clocks = s.clocks := rfl
@[simp] theorem State.answer_upstream_response (r : UResponse) : (s.answer r).upstream.response = some r := rfl

/-! `clearHost` -/

@[simp] theorem State.clearHost_decoder : (s.clearHost).decoder = s.decoder := rfl
@[simp] theorem State.clearHost_upstream_response : (s.clearHost).upstream.response = s.upstream.response := rfl
@[simp] theorem State.clearHost_queue : (s.clearHost).queue = s.queue := rfl
@[simp] theorem State.clearHost_groups : (s.clearHost).groups = s.groups := rfl
@[simp] theorem State.clearHost_ready : (s.clearHost).ready = s.ready := rfl
@[simp] theorem State.clearHost_heldList : (s.clearHost).heldList = s.heldList := rfl
@[simp] theorem State.clearHost_engine : (s.clearHost).engine = s.engine := rfl
@[simp] theorem State.clearHost_arbiter : (s.clearHost).arbiter = s.arbiter := rfl
@[simp] theorem State.clearHost_link : (s.clearHost).link = s.link := rfl
@[simp] theorem State.clearHost_time : (s.clearHost).time = s.time := rfl
@[simp] theorem State.clearHost_inhibit : (s.clearHost).inhibit = s.inhibit := rfl
@[simp] theorem State.clearHost_report : (s.clearHost).report = s.report := rfl
@[simp] theorem State.clearHost_mgmt : (s.clearHost).mgmt = s.mgmt := rfl
@[simp] theorem State.clearHost_pins : (s.clearHost).pins = s.pins := rfl
@[simp] theorem State.clearHost_pending : (s.clearHost).pending = s.pending := rfl
@[simp] theorem State.clearHost_clocks : (s.clearHost).clocks = s.clocks := rfl
@[simp] theorem State.clearHost_upstream_host : (s.clearHost).upstream.host = none := rfl

/-! `refuse` -/

@[simp] theorem State.refuse_decoder (c : RefusedCycle) (reason : RefusalReason) (w : Option WindowId) : (s.refuse c reason w).decoder = s.decoder := rfl
@[simp] theorem State.refuse_upstream_host (c : RefusedCycle) (reason : RefusalReason) (w : Option WindowId) : (s.refuse c reason w).upstream.host = s.upstream.host := rfl
@[simp] theorem State.refuse_queue (c : RefusedCycle) (reason : RefusalReason) (w : Option WindowId) : (s.refuse c reason w).queue = s.queue := rfl
@[simp] theorem State.refuse_groups (c : RefusedCycle) (reason : RefusalReason) (w : Option WindowId) : (s.refuse c reason w).groups = s.groups := rfl
@[simp] theorem State.refuse_ready (c : RefusedCycle) (reason : RefusalReason) (w : Option WindowId) : (s.refuse c reason w).ready = s.ready := rfl
@[simp] theorem State.refuse_heldList (c : RefusedCycle) (reason : RefusalReason) (w : Option WindowId) : (s.refuse c reason w).heldList = s.heldList := rfl
@[simp] theorem State.refuse_engine (c : RefusedCycle) (reason : RefusalReason) (w : Option WindowId) : (s.refuse c reason w).engine = s.engine := rfl
@[simp] theorem State.refuse_arbiter (c : RefusedCycle) (reason : RefusalReason) (w : Option WindowId) : (s.refuse c reason w).arbiter = s.arbiter := rfl
@[simp] theorem State.refuse_link (c : RefusedCycle) (reason : RefusalReason) (w : Option WindowId) : (s.refuse c reason w).link = s.link := rfl
@[simp] theorem State.refuse_time (c : RefusedCycle) (reason : RefusalReason) (w : Option WindowId) : (s.refuse c reason w).time = s.time := rfl
@[simp] theorem State.refuse_inhibit (c : RefusedCycle) (reason : RefusalReason) (w : Option WindowId) : (s.refuse c reason w).inhibit = s.inhibit := rfl
@[simp] theorem State.refuse_report_mask (c : RefusedCycle) (reason : RefusalReason) (w : Option WindowId) : (s.refuse c reason w).report.mask = s.report.mask := rfl
@[simp] theorem State.refuse_report_completions (c : RefusedCycle) (reason : RefusalReason) (w : Option WindowId) : (s.refuse c reason w).report.completions = s.report.completions := rfl
@[simp] theorem State.refuse_report_events (c : RefusedCycle) (reason : RefusalReason) (w : Option WindowId) : (s.refuse c reason w).report.events = s.report.events := rfl
@[simp] theorem State.refuse_mgmt (c : RefusedCycle) (reason : RefusalReason) (w : Option WindowId) : (s.refuse c reason w).mgmt = s.mgmt := rfl
@[simp] theorem State.refuse_pins (c : RefusedCycle) (reason : RefusalReason) (w : Option WindowId) : (s.refuse c reason w).pins = s.pins := rfl
@[simp] theorem State.refuse_pending (c : RefusedCycle) (reason : RefusalReason) (w : Option WindowId) : (s.refuse c reason w).pending = s.pending := rfl
@[simp] theorem State.refuse_clocks (c : RefusedCycle) (reason : RefusalReason) (w : Option WindowId) : (s.refuse c reason w).clocks = s.clocks := rfl
@[simp] theorem State.refuse_upstream_response (c : RefusedCycle) (reason : RefusalReason) (w : Option WindowId) : (s.refuse c reason w).upstream.response = some (errorResponse c.kind) := rfl
@[simp] theorem State.refuse_report_causes (c : RefusedCycle) (reason : RefusalReason) (w : Option WindowId) : (s.refuse c reason w).report.causes = s.report.causes ||| Cause.refusal.set := rfl
@[simp] theorem State.refuse_report_refusal (c : RefusedCycle) (reason : RefusalReason) (w : Option WindowId) : (s.refuse c reason w).report.refusal = some (captureRefusal s.report.refusal c reason w) := rfl

/-! `append` -/

@[simp] theorem State.append_decoder (w : StagedWrite) : (s.append w).decoder = s.decoder := rfl
@[simp] theorem State.append_upstream_host (w : StagedWrite) : (s.append w).upstream.host = s.upstream.host := rfl
@[simp] theorem State.append_queue_held (w : StagedWrite) : (s.append w).queue.held = s.queue.held := rfl
@[simp] theorem State.append_queue_holdTimer (w : StagedWrite) : (s.append w).queue.holdTimer = s.queue.holdTimer := rfl
@[simp] theorem State.append_queue_holdLimit (w : StagedWrite) : (s.append w).queue.holdLimit = s.queue.holdLimit := rfl
@[simp] theorem State.append_groups (w : StagedWrite) : (s.append w).groups = s.groups := rfl
@[simp] theorem State.append_ready (w : StagedWrite) : (s.append w).ready = s.ready := rfl
@[simp] theorem State.append_heldList (w : StagedWrite) : (s.append w).heldList = s.heldList := rfl
@[simp] theorem State.append_engine (w : StagedWrite) : (s.append w).engine = s.engine := rfl
@[simp] theorem State.append_arbiter (w : StagedWrite) : (s.append w).arbiter = s.arbiter := rfl
@[simp] theorem State.append_link (w : StagedWrite) : (s.append w).link = s.link := rfl
@[simp] theorem State.append_time (w : StagedWrite) : (s.append w).time = s.time := rfl
@[simp] theorem State.append_inhibit (w : StagedWrite) : (s.append w).inhibit = s.inhibit := rfl
@[simp] theorem State.append_report (w : StagedWrite) : (s.append w).report = s.report := rfl
@[simp] theorem State.append_mgmt (w : StagedWrite) : (s.append w).mgmt = s.mgmt := rfl
@[simp] theorem State.append_pins (w : StagedWrite) : (s.append w).pins = s.pins := rfl
@[simp] theorem State.append_pending (w : StagedWrite) : (s.append w).pending = s.pending := rfl
@[simp] theorem State.append_clocks (w : StagedWrite) : (s.append w).clocks = s.clocks := rfl
@[simp] theorem State.append_upstream_response (w : StagedWrite) : (s.append w).upstream.response = some (.done none) := rfl
@[simp] theorem State.append_queue_entries (w : StagedWrite) : (s.append w).queue.entries = s.queue.entries ++ [w.entry s.queue.arrival] := rfl
@[simp] theorem State.append_queue_arrival (w : StagedWrite) : (s.append w).queue.arrival = s.queue.arrival + 1 := rfl

/-! `endHold` -/

@[simp] theorem State.endHold_decoder : (s.endHold).decoder = s.decoder := rfl
@[simp] theorem State.endHold_upstream : (s.endHold).upstream = s.upstream := rfl
@[simp] theorem State.endHold_queue_entries : (s.endHold).queue.entries = s.queue.entries := rfl
@[simp] theorem State.endHold_queue_arrival : (s.endHold).queue.arrival = s.queue.arrival := rfl
@[simp] theorem State.endHold_queue_holdLimit : (s.endHold).queue.holdLimit = s.queue.holdLimit := rfl
@[simp] theorem State.endHold_groups : (s.endHold).groups = s.groups := rfl
@[simp] theorem State.endHold_ready : (s.endHold).ready = s.ready := rfl
@[simp] theorem State.endHold_heldList : (s.endHold).heldList = s.heldList := rfl
@[simp] theorem State.endHold_engine : (s.endHold).engine = s.engine := rfl
@[simp] theorem State.endHold_arbiter : (s.endHold).arbiter = s.arbiter := rfl
@[simp] theorem State.endHold_link : (s.endHold).link = s.link := rfl
@[simp] theorem State.endHold_time : (s.endHold).time = s.time := rfl
@[simp] theorem State.endHold_inhibit : (s.endHold).inhibit = s.inhibit := rfl
@[simp] theorem State.endHold_report : (s.endHold).report = s.report := rfl
@[simp] theorem State.endHold_mgmt : (s.endHold).mgmt = s.mgmt := rfl
@[simp] theorem State.endHold_pins : (s.endHold).pins = s.pins := rfl
@[simp] theorem State.endHold_pending : (s.endHold).pending = s.pending := rfl
@[simp] theorem State.endHold_clocks : (s.endHold).clocks = s.clocks := rfl
@[simp] theorem State.endHold_queue_held : (s.endHold).queue.held = none := rfl
@[simp] theorem State.endHold_queue_holdTimer : (s.endHold).queue.holdTimer = .stopped := rfl

/-! `withoutEntries` -/

@[simp] theorem State.withoutEntries_decoder (p : Entry → Bool) : (s.withoutEntries p).decoder = s.decoder := rfl
@[simp] theorem State.withoutEntries_upstream (p : Entry → Bool) : (s.withoutEntries p).upstream = s.upstream := rfl
@[simp] theorem State.withoutEntries_queue_arrival (p : Entry → Bool) : (s.withoutEntries p).queue.arrival = s.queue.arrival := rfl
@[simp] theorem State.withoutEntries_queue_held (p : Entry → Bool) : (s.withoutEntries p).queue.held = s.queue.held := rfl
@[simp] theorem State.withoutEntries_queue_holdTimer (p : Entry → Bool) : (s.withoutEntries p).queue.holdTimer = s.queue.holdTimer := rfl
@[simp] theorem State.withoutEntries_queue_holdLimit (p : Entry → Bool) : (s.withoutEntries p).queue.holdLimit = s.queue.holdLimit := rfl
@[simp] theorem State.withoutEntries_groups (p : Entry → Bool) : (s.withoutEntries p).groups = s.groups := rfl
@[simp] theorem State.withoutEntries_ready (p : Entry → Bool) : (s.withoutEntries p).ready = s.ready := rfl
@[simp] theorem State.withoutEntries_heldList (p : Entry → Bool) : (s.withoutEntries p).heldList = s.heldList := rfl
@[simp] theorem State.withoutEntries_engine (p : Entry → Bool) : (s.withoutEntries p).engine = s.engine := rfl
@[simp] theorem State.withoutEntries_arbiter (p : Entry → Bool) : (s.withoutEntries p).arbiter = s.arbiter := rfl
@[simp] theorem State.withoutEntries_link (p : Entry → Bool) : (s.withoutEntries p).link = s.link := rfl
@[simp] theorem State.withoutEntries_time (p : Entry → Bool) : (s.withoutEntries p).time = s.time := rfl
@[simp] theorem State.withoutEntries_inhibit (p : Entry → Bool) : (s.withoutEntries p).inhibit = s.inhibit := rfl
@[simp] theorem State.withoutEntries_report (p : Entry → Bool) : (s.withoutEntries p).report = s.report := rfl
@[simp] theorem State.withoutEntries_mgmt (p : Entry → Bool) : (s.withoutEntries p).mgmt = s.mgmt := rfl
@[simp] theorem State.withoutEntries_pins (p : Entry → Bool) : (s.withoutEntries p).pins = s.pins := rfl
@[simp] theorem State.withoutEntries_pending (p : Entry → Bool) : (s.withoutEntries p).pending = s.pending := rfl
@[simp] theorem State.withoutEntries_clocks (p : Entry → Bool) : (s.withoutEntries p).clocks = s.clocks := rfl
@[simp] theorem State.withoutEntries_queue_entries (p : Entry → Bool) : (s.withoutEntries p).queue.entries = s.queue.entries.filter (fun e => !p e) := rfl

/-! `updGroup` -/

@[simp] theorem State.updGroup_decoder (g : GroupId) (f : Group → Group) : (s.updGroup g f).decoder = s.decoder := rfl
@[simp] theorem State.updGroup_upstream (g : GroupId) (f : Group → Group) : (s.updGroup g f).upstream = s.upstream := rfl
@[simp] theorem State.updGroup_queue (g : GroupId) (f : Group → Group) : (s.updGroup g f).queue = s.queue := rfl
@[simp] theorem State.updGroup_ready (g : GroupId) (f : Group → Group) : (s.updGroup g f).ready = s.ready := rfl
@[simp] theorem State.updGroup_heldList (g : GroupId) (f : Group → Group) : (s.updGroup g f).heldList = s.heldList := rfl
@[simp] theorem State.updGroup_engine (g : GroupId) (f : Group → Group) : (s.updGroup g f).engine = s.engine := rfl
@[simp] theorem State.updGroup_arbiter (g : GroupId) (f : Group → Group) : (s.updGroup g f).arbiter = s.arbiter := rfl
@[simp] theorem State.updGroup_link (g : GroupId) (f : Group → Group) : (s.updGroup g f).link = s.link := rfl
@[simp] theorem State.updGroup_time (g : GroupId) (f : Group → Group) : (s.updGroup g f).time = s.time := rfl
@[simp] theorem State.updGroup_inhibit (g : GroupId) (f : Group → Group) : (s.updGroup g f).inhibit = s.inhibit := rfl
@[simp] theorem State.updGroup_report (g : GroupId) (f : Group → Group) : (s.updGroup g f).report = s.report := rfl
@[simp] theorem State.updGroup_mgmt (g : GroupId) (f : Group → Group) : (s.updGroup g f).mgmt = s.mgmt := rfl
@[simp] theorem State.updGroup_pins (g : GroupId) (f : Group → Group) : (s.updGroup g f).pins = s.pins := rfl
@[simp] theorem State.updGroup_pending (g : GroupId) (f : Group → Group) : (s.updGroup g f).pending = s.pending := rfl
@[simp] theorem State.updGroup_clocks (g : GroupId) (f : Group → Group) : (s.updGroup g f).clocks = s.clocks := rfl
theorem State.updGroup_groups (g : GroupId) (f : Group → Group) : (s.updGroup g f).groups = s.groups.set g.val (f s.groups[g]) g.isLt := rfl

/-! `setTally` -/

@[simp] theorem State.setTally_decoder (g : GroupId) (n : Nat) : (s.setTally g n).decoder = s.decoder := rfl
@[simp] theorem State.setTally_upstream (g : GroupId) (n : Nat) : (s.setTally g n).upstream = s.upstream := rfl
@[simp] theorem State.setTally_queue (g : GroupId) (n : Nat) : (s.setTally g n).queue = s.queue := rfl
@[simp] theorem State.setTally_groups (g : GroupId) (n : Nat) : (s.setTally g n).groups = s.groups := rfl
@[simp] theorem State.setTally_ready (g : GroupId) (n : Nat) : (s.setTally g n).ready = s.ready := rfl
@[simp] theorem State.setTally_heldList (g : GroupId) (n : Nat) : (s.setTally g n).heldList = s.heldList := rfl
@[simp] theorem State.setTally_engine_phase (g : GroupId) (n : Nat) : (s.setTally g n).engine.phase = s.engine.phase := rfl
@[simp] theorem State.setTally_arbiter (g : GroupId) (n : Nat) : (s.setTally g n).arbiter = s.arbiter := rfl
@[simp] theorem State.setTally_link (g : GroupId) (n : Nat) : (s.setTally g n).link = s.link := rfl
@[simp] theorem State.setTally_time (g : GroupId) (n : Nat) : (s.setTally g n).time = s.time := rfl
@[simp] theorem State.setTally_inhibit (g : GroupId) (n : Nat) : (s.setTally g n).inhibit = s.inhibit := rfl
@[simp] theorem State.setTally_report (g : GroupId) (n : Nat) : (s.setTally g n).report = s.report := rfl
@[simp] theorem State.setTally_mgmt (g : GroupId) (n : Nat) : (s.setTally g n).mgmt = s.mgmt := rfl
@[simp] theorem State.setTally_pins (g : GroupId) (n : Nat) : (s.setTally g n).pins = s.pins := rfl
@[simp] theorem State.setTally_pending (g : GroupId) (n : Nat) : (s.setTally g n).pending = s.pending := rfl
@[simp] theorem State.setTally_clocks (g : GroupId) (n : Nat) : (s.setTally g n).clocks = s.clocks := rfl
@[simp] theorem State.setTally_engine_tally (g : GroupId) (n : Nat) : (s.setTally g n).engine.tally = s.engine.tally.set g.val n g.isLt := rfl

/-! `countOk` -/

@[simp] theorem State.countOk_decoder (g : GroupId) : (s.countOk g).decoder = s.decoder := rfl
@[simp] theorem State.countOk_upstream (g : GroupId) : (s.countOk g).upstream = s.upstream := rfl
@[simp] theorem State.countOk_queue (g : GroupId) : (s.countOk g).queue = s.queue := rfl
@[simp] theorem State.countOk_groups (g : GroupId) : (s.countOk g).groups = s.groups := rfl
@[simp] theorem State.countOk_ready (g : GroupId) : (s.countOk g).ready = s.ready := rfl
@[simp] theorem State.countOk_heldList (g : GroupId) : (s.countOk g).heldList = s.heldList := rfl
@[simp] theorem State.countOk_engine_phase (g : GroupId) : (s.countOk g).engine.phase = s.engine.phase := rfl
@[simp] theorem State.countOk_arbiter (g : GroupId) : (s.countOk g).arbiter = s.arbiter := rfl
@[simp] theorem State.countOk_link (g : GroupId) : (s.countOk g).link = s.link := rfl
@[simp] theorem State.countOk_time (g : GroupId) : (s.countOk g).time = s.time := rfl
@[simp] theorem State.countOk_inhibit (g : GroupId) : (s.countOk g).inhibit = s.inhibit := rfl
@[simp] theorem State.countOk_report (g : GroupId) : (s.countOk g).report = s.report := rfl
@[simp] theorem State.countOk_mgmt (g : GroupId) : (s.countOk g).mgmt = s.mgmt := rfl
@[simp] theorem State.countOk_pins (g : GroupId) : (s.countOk g).pins = s.pins := rfl
@[simp] theorem State.countOk_pending (g : GroupId) : (s.countOk g).pending = s.pending := rfl
@[simp] theorem State.countOk_clocks (g : GroupId) : (s.countOk g).clocks = s.clocks := rfl
@[simp] theorem State.countOk_engine_tally (g : GroupId) : (s.countOk g).engine.tally = s.engine.tally.set g.val (min (s.engine.tally[g] + 1) Config.tallyTop) g.isLt := rfl

/-! `leaveLists` -/

@[simp] theorem State.leaveLists_decoder (g : GroupId) : (s.leaveLists g).decoder = s.decoder := rfl
@[simp] theorem State.leaveLists_upstream (g : GroupId) : (s.leaveLists g).upstream = s.upstream := rfl
@[simp] theorem State.leaveLists_queue (g : GroupId) : (s.leaveLists g).queue = s.queue := rfl
@[simp] theorem State.leaveLists_groups (g : GroupId) : (s.leaveLists g).groups = s.groups := rfl
@[simp] theorem State.leaveLists_engine (g : GroupId) : (s.leaveLists g).engine = s.engine := rfl
@[simp] theorem State.leaveLists_arbiter (g : GroupId) : (s.leaveLists g).arbiter = s.arbiter := rfl
@[simp] theorem State.leaveLists_link (g : GroupId) : (s.leaveLists g).link = s.link := rfl
@[simp] theorem State.leaveLists_time (g : GroupId) : (s.leaveLists g).time = s.time := rfl
@[simp] theorem State.leaveLists_inhibit (g : GroupId) : (s.leaveLists g).inhibit = s.inhibit := rfl
@[simp] theorem State.leaveLists_report (g : GroupId) : (s.leaveLists g).report = s.report := rfl
@[simp] theorem State.leaveLists_mgmt (g : GroupId) : (s.leaveLists g).mgmt = s.mgmt := rfl
@[simp] theorem State.leaveLists_pins (g : GroupId) : (s.leaveLists g).pins = s.pins := rfl
@[simp] theorem State.leaveLists_pending (g : GroupId) : (s.leaveLists g).pending = s.pending := rfl
@[simp] theorem State.leaveLists_clocks (g : GroupId) : (s.leaveLists g).clocks = s.clocks := rfl
@[simp] theorem State.leaveLists_ready (g : GroupId) : (s.leaveLists g).ready = s.ready.filter (· != g) := rfl
@[simp] theorem State.leaveLists_heldList (g : GroupId) : (s.leaveLists g).heldList = s.heldList.filter (· != g) := rfl

/-! `setPhase` -/

@[simp] theorem State.setPhase_decoder (p : EnginePhase) : (s.setPhase p).decoder = s.decoder := rfl
@[simp] theorem State.setPhase_upstream (p : EnginePhase) : (s.setPhase p).upstream = s.upstream := rfl
@[simp] theorem State.setPhase_queue (p : EnginePhase) : (s.setPhase p).queue = s.queue := rfl
@[simp] theorem State.setPhase_groups (p : EnginePhase) : (s.setPhase p).groups = s.groups := rfl
@[simp] theorem State.setPhase_ready (p : EnginePhase) : (s.setPhase p).ready = s.ready := rfl
@[simp] theorem State.setPhase_heldList (p : EnginePhase) : (s.setPhase p).heldList = s.heldList := rfl
@[simp] theorem State.setPhase_engine_tally (p : EnginePhase) : (s.setPhase p).engine.tally = s.engine.tally := rfl
@[simp] theorem State.setPhase_arbiter (p : EnginePhase) : (s.setPhase p).arbiter = s.arbiter := rfl
@[simp] theorem State.setPhase_link (p : EnginePhase) : (s.setPhase p).link = s.link := rfl
@[simp] theorem State.setPhase_time (p : EnginePhase) : (s.setPhase p).time = s.time := rfl
@[simp] theorem State.setPhase_inhibit (p : EnginePhase) : (s.setPhase p).inhibit = s.inhibit := rfl
@[simp] theorem State.setPhase_report (p : EnginePhase) : (s.setPhase p).report = s.report := rfl
@[simp] theorem State.setPhase_mgmt (p : EnginePhase) : (s.setPhase p).mgmt = s.mgmt := rfl
@[simp] theorem State.setPhase_pins (p : EnginePhase) : (s.setPhase p).pins = s.pins := rfl
@[simp] theorem State.setPhase_pending (p : EnginePhase) : (s.setPhase p).pending = s.pending := rfl
@[simp] theorem State.setPhase_clocks (p : EnginePhase) : (s.setPhase p).clocks = s.clocks := rfl
@[simp] theorem State.setPhase_engine_phase (p : EnginePhase) : (s.setPhase p).engine.phase = p := rfl

/-! `setPort` -/

@[simp] theorem State.setPort_decoder (p : PortState) : (s.setPort p).decoder = s.decoder := rfl
@[simp] theorem State.setPort_upstream (p : PortState) : (s.setPort p).upstream = s.upstream := rfl
@[simp] theorem State.setPort_queue (p : PortState) : (s.setPort p).queue = s.queue := rfl
@[simp] theorem State.setPort_groups (p : PortState) : (s.setPort p).groups = s.groups := rfl
@[simp] theorem State.setPort_ready (p : PortState) : (s.setPort p).ready = s.ready := rfl
@[simp] theorem State.setPort_heldList (p : PortState) : (s.setPort p).heldList = s.heldList := rfl
@[simp] theorem State.setPort_engine (p : PortState) : (s.setPort p).engine = s.engine := rfl
@[simp] theorem State.setPort_arbiter_burst (p : PortState) : (s.setPort p).arbiter.burst = s.arbiter.burst := rfl
@[simp] theorem State.setPort_arbiter_burstLimit (p : PortState) : (s.setPort p).arbiter.burstLimit = s.arbiter.burstLimit := rfl
@[simp] theorem State.setPort_arbiter_dTimeout (p : PortState) : (s.setPort p).arbiter.dTimeout = s.arbiter.dTimeout := rfl
@[simp] theorem State.setPort_link (p : PortState) : (s.setPort p).link = s.link := rfl
@[simp] theorem State.setPort_time (p : PortState) : (s.setPort p).time = s.time := rfl
@[simp] theorem State.setPort_inhibit (p : PortState) : (s.setPort p).inhibit = s.inhibit := rfl
@[simp] theorem State.setPort_report (p : PortState) : (s.setPort p).report = s.report := rfl
@[simp] theorem State.setPort_mgmt (p : PortState) : (s.setPort p).mgmt = s.mgmt := rfl
@[simp] theorem State.setPort_pins (p : PortState) : (s.setPort p).pins = s.pins := rfl
@[simp] theorem State.setPort_pending (p : PortState) : (s.setPort p).pending = s.pending := rfl
@[simp] theorem State.setPort_clocks (p : PortState) : (s.setPort p).clocks = s.clocks := rfl
@[simp] theorem State.setPort_arbiter_port (p : PortState) : (s.setPort p).arbiter.port = p := rfl

/-! `grantCycle` -/

@[simp] theorem State.grantCycle_decoder (source : PortSource) (c : DCycle) : (s.grantCycle source c).decoder = s.decoder := rfl
@[simp] theorem State.grantCycle_upstream (source : PortSource) (c : DCycle) : (s.grantCycle source c).upstream = s.upstream := rfl
@[simp] theorem State.grantCycle_queue (source : PortSource) (c : DCycle) : (s.grantCycle source c).queue = s.queue := rfl
@[simp] theorem State.grantCycle_groups (source : PortSource) (c : DCycle) : (s.grantCycle source c).groups = s.groups := rfl
@[simp] theorem State.grantCycle_ready (source : PortSource) (c : DCycle) : (s.grantCycle source c).ready = s.ready := rfl
@[simp] theorem State.grantCycle_heldList (source : PortSource) (c : DCycle) : (s.grantCycle source c).heldList = s.heldList := rfl
@[simp] theorem State.grantCycle_engine (source : PortSource) (c : DCycle) : (s.grantCycle source c).engine = s.engine := rfl
@[simp] theorem State.grantCycle_arbiter_burst (source : PortSource) (c : DCycle) : (s.grantCycle source c).arbiter.burst = s.arbiter.burst := rfl
@[simp] theorem State.grantCycle_arbiter_burstLimit (source : PortSource) (c : DCycle) : (s.grantCycle source c).arbiter.burstLimit = s.arbiter.burstLimit := rfl
@[simp] theorem State.grantCycle_arbiter_dTimeout (source : PortSource) (c : DCycle) : (s.grantCycle source c).arbiter.dTimeout = s.arbiter.dTimeout := rfl
@[simp] theorem State.grantCycle_link (source : PortSource) (c : DCycle) : (s.grantCycle source c).link = s.link := rfl
@[simp] theorem State.grantCycle_time (source : PortSource) (c : DCycle) : (s.grantCycle source c).time = s.time := rfl
@[simp] theorem State.grantCycle_inhibit (source : PortSource) (c : DCycle) : (s.grantCycle source c).inhibit = s.inhibit := rfl
@[simp] theorem State.grantCycle_report (source : PortSource) (c : DCycle) : (s.grantCycle source c).report = s.report := rfl
@[simp] theorem State.grantCycle_mgmt (source : PortSource) (c : DCycle) : (s.grantCycle source c).mgmt = s.mgmt := rfl
@[simp] theorem State.grantCycle_pins (source : PortSource) (c : DCycle) : (s.grantCycle source c).pins = s.pins := rfl
@[simp] theorem State.grantCycle_pending (source : PortSource) (c : DCycle) : (s.grantCycle source c).pending = s.pending := rfl
@[simp] theorem State.grantCycle_clocks (source : PortSource) (c : DCycle) : (s.grantCycle source c).clocks = s.clocks := rfl
@[simp] theorem State.grantCycle_arbiter_port (source : PortSource) (c : DCycle) : (s.grantCycle source c).arbiter.port = .busy source ⟨c, .running s.arbiter.dTimeout, s.arbiter.dTimeout⟩ := rfl

/-! `setBurst` -/

@[simp] theorem State.setBurst_decoder (n : Nat) : (s.setBurst n).decoder = s.decoder := rfl
@[simp] theorem State.setBurst_upstream (n : Nat) : (s.setBurst n).upstream = s.upstream := rfl
@[simp] theorem State.setBurst_queue (n : Nat) : (s.setBurst n).queue = s.queue := rfl
@[simp] theorem State.setBurst_groups (n : Nat) : (s.setBurst n).groups = s.groups := rfl
@[simp] theorem State.setBurst_ready (n : Nat) : (s.setBurst n).ready = s.ready := rfl
@[simp] theorem State.setBurst_heldList (n : Nat) : (s.setBurst n).heldList = s.heldList := rfl
@[simp] theorem State.setBurst_engine (n : Nat) : (s.setBurst n).engine = s.engine := rfl
@[simp] theorem State.setBurst_arbiter_port (n : Nat) : (s.setBurst n).arbiter.port = s.arbiter.port := rfl
@[simp] theorem State.setBurst_arbiter_burstLimit (n : Nat) : (s.setBurst n).arbiter.burstLimit = s.arbiter.burstLimit := rfl
@[simp] theorem State.setBurst_arbiter_dTimeout (n : Nat) : (s.setBurst n).arbiter.dTimeout = s.arbiter.dTimeout := rfl
@[simp] theorem State.setBurst_link (n : Nat) : (s.setBurst n).link = s.link := rfl
@[simp] theorem State.setBurst_time (n : Nat) : (s.setBurst n).time = s.time := rfl
@[simp] theorem State.setBurst_inhibit (n : Nat) : (s.setBurst n).inhibit = s.inhibit := rfl
@[simp] theorem State.setBurst_report (n : Nat) : (s.setBurst n).report = s.report := rfl
@[simp] theorem State.setBurst_mgmt (n : Nat) : (s.setBurst n).mgmt = s.mgmt := rfl
@[simp] theorem State.setBurst_pins (n : Nat) : (s.setBurst n).pins = s.pins := rfl
@[simp] theorem State.setBurst_pending (n : Nat) : (s.setBurst n).pending = s.pending := rfl
@[simp] theorem State.setBurst_clocks (n : Nat) : (s.setBurst n).clocks = s.clocks := rfl
@[simp] theorem State.setBurst_arbiter_burst (n : Nat) : (s.setBurst n).arbiter.burst = n := rfl

/-! `setSources` -/

@[simp] theorem State.setSources_decoder (i : InhibitSet) : (s.setSources i).decoder = s.decoder := rfl
@[simp] theorem State.setSources_upstream (i : InhibitSet) : (s.setSources i).upstream = s.upstream := rfl
@[simp] theorem State.setSources_queue (i : InhibitSet) : (s.setSources i).queue = s.queue := rfl
@[simp] theorem State.setSources_groups (i : InhibitSet) : (s.setSources i).groups = s.groups := rfl
@[simp] theorem State.setSources_ready (i : InhibitSet) : (s.setSources i).ready = s.ready := rfl
@[simp] theorem State.setSources_heldList (i : InhibitSet) : (s.setSources i).heldList = s.heldList := rfl
@[simp] theorem State.setSources_engine (i : InhibitSet) : (s.setSources i).engine = s.engine := rfl
@[simp] theorem State.setSources_arbiter (i : InhibitSet) : (s.setSources i).arbiter = s.arbiter := rfl
@[simp] theorem State.setSources_link (i : InhibitSet) : (s.setSources i).link = s.link := rfl
@[simp] theorem State.setSources_time (i : InhibitSet) : (s.setSources i).time = s.time := rfl
@[simp] theorem State.setSources_inhibit_onLinkLoss (i : InhibitSet) : (s.setSources i).inhibit.onLinkLoss = s.inhibit.onLinkLoss := rfl
@[simp] theorem State.setSources_report (i : InhibitSet) : (s.setSources i).report = s.report := rfl
@[simp] theorem State.setSources_mgmt (i : InhibitSet) : (s.setSources i).mgmt = s.mgmt := rfl
@[simp] theorem State.setSources_pins (i : InhibitSet) : (s.setSources i).pins = s.pins := rfl
@[simp] theorem State.setSources_pending (i : InhibitSet) : (s.setSources i).pending = s.pending := rfl
@[simp] theorem State.setSources_clocks (i : InhibitSet) : (s.setSources i).clocks = s.clocks := rfl
@[simp] theorem State.setSources_inhibit_sources (i : InhibitSet) : (s.setSources i).inhibit.sources = i := rfl

/-! `takeEpoch` -/

@[simp] theorem State.takeEpoch_decoder (source : Origin) : (s.takeEpoch source).decoder = s.decoder := rfl
@[simp] theorem State.takeEpoch_upstream (source : Origin) : (s.takeEpoch source).upstream = s.upstream := rfl
@[simp] theorem State.takeEpoch_queue (source : Origin) : (s.takeEpoch source).queue = s.queue := rfl
@[simp] theorem State.takeEpoch_groups (source : Origin) : (s.takeEpoch source).groups = s.groups := rfl
@[simp] theorem State.takeEpoch_ready (source : Origin) : (s.takeEpoch source).ready = s.ready := rfl
@[simp] theorem State.takeEpoch_heldList (source : Origin) : (s.takeEpoch source).heldList = s.heldList := rfl
@[simp] theorem State.takeEpoch_engine (source : Origin) : (s.takeEpoch source).engine = s.engine := rfl
@[simp] theorem State.takeEpoch_arbiter (source : Origin) : (s.takeEpoch source).arbiter = s.arbiter := rfl
@[simp] theorem State.takeEpoch_link (source : Origin) : (s.takeEpoch source).link = s.link := rfl
@[simp] theorem State.takeEpoch_time_source (source : Origin) : (s.takeEpoch source).time.source = s.time.source := rfl
@[simp] theorem State.takeEpoch_time_supplier (source : Origin) : (s.takeEpoch source).time.supplier = s.time.supplier := rfl
@[simp] theorem State.takeEpoch_time_tickFrom (source : Origin) : (s.takeEpoch source).time.tickFrom = s.time.tickFrom := rfl
@[simp] theorem State.takeEpoch_time_holdover (source : Origin) : (s.takeEpoch source).time.holdover = s.time.holdover := rfl
@[simp] theorem State.takeEpoch_inhibit (source : Origin) : (s.takeEpoch source).inhibit = s.inhibit := rfl
@[simp] theorem State.takeEpoch_report (source : Origin) : (s.takeEpoch source).report = s.report := rfl
@[simp] theorem State.takeEpoch_mgmt (source : Origin) : (s.takeEpoch source).mgmt = s.mgmt := rfl
@[simp] theorem State.takeEpoch_pins (source : Origin) : (s.takeEpoch source).pins = s.pins := rfl
@[simp] theorem State.takeEpoch_pending (source : Origin) : (s.takeEpoch source).pending = s.pending := rfl
@[simp] theorem State.takeEpoch_clocks (source : Origin) : (s.takeEpoch source).clocks = s.clocks := rfl
@[simp] theorem State.takeEpoch_time_lastEpoch (source : Origin) : (s.takeEpoch source).time.lastEpoch = some ⟨source, s.now⟩ := rfl
@[simp] theorem State.takeEpoch_time_counter (source : Origin) : (s.takeEpoch source).time.counter = 0 := rfl
@[simp] theorem State.takeEpoch_time_generation (source : Origin) : (s.takeEpoch source).time.generation = s.time.generation + 1 := rfl

/-! `setup` -/

@[simp] theorem State.setup_decoder (choice : ChannelChoice) (p : Profile) : (s.setup choice p).decoder = s.decoder := rfl
@[simp] theorem State.setup_upstream (choice : ChannelChoice) (p : Profile) : (s.setup choice p).upstream = s.upstream := rfl
@[simp] theorem State.setup_queue (choice : ChannelChoice) (p : Profile) : (s.setup choice p).queue = s.queue := rfl
@[simp] theorem State.setup_ready (choice : ChannelChoice) (p : Profile) : (s.setup choice p).ready = s.ready := rfl
@[simp] theorem State.setup_heldList (choice : ChannelChoice) (p : Profile) : (s.setup choice p).heldList = s.heldList := rfl
@[simp] theorem State.setup_engine (choice : ChannelChoice) (p : Profile) : (s.setup choice p).engine = s.engine := rfl
@[simp] theorem State.setup_arbiter (choice : ChannelChoice) (p : Profile) : (s.setup choice p).arbiter = s.arbiter := rfl
@[simp] theorem State.setup_link (choice : ChannelChoice) (p : Profile) : (s.setup choice p).link = s.link := rfl
@[simp] theorem State.setup_time (choice : ChannelChoice) (p : Profile) : (s.setup choice p).time = s.time := rfl
@[simp] theorem State.setup_inhibit (choice : ChannelChoice) (p : Profile) : (s.setup choice p).inhibit = s.inhibit := rfl
@[simp] theorem State.setup_report (choice : ChannelChoice) (p : Profile) : (s.setup choice p).report = s.report := rfl
@[simp] theorem State.setup_mgmt (choice : ChannelChoice) (p : Profile) : (s.setup choice p).mgmt = s.mgmt := rfl
@[simp] theorem State.setup_pins (choice : ChannelChoice) (p : Profile) : (s.setup choice p).pins = s.pins := rfl
@[simp] theorem State.setup_pending (choice : ChannelChoice) (p : Profile) : (s.setup choice p).pending = s.pending := rfl
@[simp] theorem State.setup_clocks (choice : ChannelChoice) (p : Profile) : (s.setup choice p).clocks = s.clocks := rfl
theorem State.setup_groups (choice : ChannelChoice) (p : Profile) : (s.setup choice p).groups = s.groups.map (fun g => if g.config.reached choice p then g.arm else g) := rfl

/-! `updLink` -/

@[simp] theorem State.updLink_decoder (f : Link → Link) : (s.updLink f).decoder = s.decoder := rfl
@[simp] theorem State.updLink_upstream (f : Link → Link) : (s.updLink f).upstream = s.upstream := rfl
@[simp] theorem State.updLink_queue (f : Link → Link) : (s.updLink f).queue = s.queue := rfl
@[simp] theorem State.updLink_groups (f : Link → Link) : (s.updLink f).groups = s.groups := rfl
@[simp] theorem State.updLink_ready (f : Link → Link) : (s.updLink f).ready = s.ready := rfl
@[simp] theorem State.updLink_heldList (f : Link → Link) : (s.updLink f).heldList = s.heldList := rfl
@[simp] theorem State.updLink_engine (f : Link → Link) : (s.updLink f).engine = s.engine := rfl
@[simp] theorem State.updLink_arbiter (f : Link → Link) : (s.updLink f).arbiter = s.arbiter := rfl
@[simp] theorem State.updLink_time (f : Link → Link) : (s.updLink f).time = s.time := rfl
@[simp] theorem State.updLink_inhibit (f : Link → Link) : (s.updLink f).inhibit = s.inhibit := rfl
@[simp] theorem State.updLink_report (f : Link → Link) : (s.updLink f).report = s.report := rfl
@[simp] theorem State.updLink_mgmt (f : Link → Link) : (s.updLink f).mgmt = s.mgmt := rfl
@[simp] theorem State.updLink_pins (f : Link → Link) : (s.updLink f).pins = s.pins := rfl
@[simp] theorem State.updLink_pending (f : Link → Link) : (s.updLink f).pending = s.pending := rfl
@[simp] theorem State.updLink_clocks (f : Link → Link) : (s.updLink f).clocks = s.clocks := rfl
@[simp] theorem State.updLink_link (f : Link → Link) : (s.updLink f).link = f s.link := rfl

/-! `linkFault` -/

@[simp] theorem State.linkFault_decoder (reason : LinkError) : (s.linkFault reason).decoder = s.decoder := rfl
@[simp] theorem State.linkFault_upstream (reason : LinkError) : (s.linkFault reason).upstream = s.upstream := rfl
@[simp] theorem State.linkFault_queue (reason : LinkError) : (s.linkFault reason).queue = s.queue := rfl
@[simp] theorem State.linkFault_groups (reason : LinkError) : (s.linkFault reason).groups = s.groups := rfl
@[simp] theorem State.linkFault_ready (reason : LinkError) : (s.linkFault reason).ready = s.ready := rfl
@[simp] theorem State.linkFault_heldList (reason : LinkError) : (s.linkFault reason).heldList = s.heldList := rfl
@[simp] theorem State.linkFault_engine (reason : LinkError) : (s.linkFault reason).engine = s.engine := rfl
@[simp] theorem State.linkFault_arbiter (reason : LinkError) : (s.linkFault reason).arbiter = s.arbiter := rfl
@[simp] theorem State.linkFault_link_state (reason : LinkError) : (s.linkFault reason).link.state = s.link.state := rfl
@[simp] theorem State.linkFault_link_carrier (reason : LinkError) : (s.linkFault reason).link.carrier = s.link.carrier := rfl
@[simp] theorem State.linkFault_link_carrierTimer (reason : LinkError) : (s.linkFault reason).link.carrierTimer = s.link.carrierTimer := rfl
@[simp] theorem State.linkFault_link_inFrame (reason : LinkError) : (s.linkFault reason).link.inFrame = s.link.inFrame := rfl
@[simp] theorem State.linkFault_link_acquired (reason : LinkError) : (s.linkFault reason).link.acquired = s.link.acquired := rfl
@[simp] theorem State.linkFault_link_history (reason : LinkError) : (s.linkFault reason).link.history = s.link.history := rfl
@[simp] theorem State.linkFault_link_expected (reason : LinkError) : (s.linkFault reason).link.expected = s.link.expected := rfl
@[simp] theorem State.linkFault_link_station (reason : LinkError) : (s.linkFault reason).link.station = s.link.station := rfl
@[simp] theorem State.linkFault_link_localChannel (reason : LinkError) : (s.linkFault reason).link.localChannel = s.link.localChannel := rfl
@[simp] theorem State.linkFault_link_localProfile (reason : LinkError) : (s.linkFault reason).link.localProfile = s.link.localProfile := rfl
@[simp] theorem State.linkFault_time (reason : LinkError) : (s.linkFault reason).time = s.time := rfl
@[simp] theorem State.linkFault_inhibit (reason : LinkError) : (s.linkFault reason).inhibit = s.inhibit := rfl
@[simp] theorem State.linkFault_report_mask (reason : LinkError) : (s.linkFault reason).report.mask = s.report.mask := rfl
@[simp] theorem State.linkFault_report_completions (reason : LinkError) : (s.linkFault reason).report.completions = s.report.completions := rfl
@[simp] theorem State.linkFault_report_events (reason : LinkError) : (s.linkFault reason).report.events = s.report.events := rfl
@[simp] theorem State.linkFault_report_refusal (reason : LinkError) : (s.linkFault reason).report.refusal = s.report.refusal := rfl
@[simp] theorem State.linkFault_mgmt (reason : LinkError) : (s.linkFault reason).mgmt = s.mgmt := rfl
@[simp] theorem State.linkFault_pins (reason : LinkError) : (s.linkFault reason).pins = s.pins := rfl
@[simp] theorem State.linkFault_pending (reason : LinkError) : (s.linkFault reason).pending = s.pending := rfl
@[simp] theorem State.linkFault_clocks (reason : LinkError) : (s.linkFault reason).clocks = s.clocks := rfl
@[simp] theorem State.linkFault_link_lastError (reason : LinkError) : (s.linkFault reason).link.lastError = some reason := rfl
@[simp] theorem State.linkFault_report_causes (reason : LinkError) : (s.linkFault reason).report.causes = s.report.causes ||| Cause.linkError.set := rfl

/-! `enterAcquiring` -/

@[simp] theorem State.enterAcquiring_decoder : (s.enterAcquiring).decoder = s.decoder := rfl
@[simp] theorem State.enterAcquiring_upstream : (s.enterAcquiring).upstream = s.upstream := rfl
@[simp] theorem State.enterAcquiring_queue : (s.enterAcquiring).queue = s.queue := rfl
@[simp] theorem State.enterAcquiring_groups : (s.enterAcquiring).groups = s.groups := rfl
@[simp] theorem State.enterAcquiring_ready : (s.enterAcquiring).ready = s.ready := rfl
@[simp] theorem State.enterAcquiring_heldList : (s.enterAcquiring).heldList = s.heldList := rfl
@[simp] theorem State.enterAcquiring_engine : (s.enterAcquiring).engine = s.engine := rfl
@[simp] theorem State.enterAcquiring_arbiter : (s.enterAcquiring).arbiter = s.arbiter := rfl
@[simp] theorem State.enterAcquiring_link_inFrame : (s.enterAcquiring).link.inFrame = s.link.inFrame := rfl
@[simp] theorem State.enterAcquiring_link_lastError : (s.enterAcquiring).link.lastError = s.link.lastError := rfl
@[simp] theorem State.enterAcquiring_link_station : (s.enterAcquiring).link.station = s.link.station := rfl
@[simp] theorem State.enterAcquiring_link_localChannel : (s.enterAcquiring).link.localChannel = s.link.localChannel := rfl
@[simp] theorem State.enterAcquiring_link_localProfile : (s.enterAcquiring).link.localProfile = s.link.localProfile := rfl
@[simp] theorem State.enterAcquiring_time : (s.enterAcquiring).time = s.time := rfl
@[simp] theorem State.enterAcquiring_inhibit : (s.enterAcquiring).inhibit = s.inhibit := rfl
@[simp] theorem State.enterAcquiring_report_mask : (s.enterAcquiring).report.mask = s.report.mask := rfl
@[simp] theorem State.enterAcquiring_report_completions : (s.enterAcquiring).report.completions = s.report.completions := rfl
@[simp] theorem State.enterAcquiring_report_events : (s.enterAcquiring).report.events = s.report.events := rfl
@[simp] theorem State.enterAcquiring_report_refusal : (s.enterAcquiring).report.refusal = s.report.refusal := rfl
@[simp] theorem State.enterAcquiring_mgmt : (s.enterAcquiring).mgmt = s.mgmt := rfl
@[simp] theorem State.enterAcquiring_pins : (s.enterAcquiring).pins = s.pins := rfl
@[simp] theorem State.enterAcquiring_pending : (s.enterAcquiring).pending = s.pending := rfl
@[simp] theorem State.enterAcquiring_clocks : (s.enterAcquiring).clocks = s.clocks := rfl
@[simp] theorem State.enterAcquiring_link_state : (s.enterAcquiring).link.state = .acquiring := rfl
@[simp] theorem State.enterAcquiring_link_carrier : (s.enterAcquiring).link.carrier = true := rfl
@[simp] theorem State.enterAcquiring_link_carrierTimer : (s.enterAcquiring).link.carrierTimer = .running Config.carrierTicks := rfl
@[simp] theorem State.enterAcquiring_link_acquired : (s.enterAcquiring).link.acquired = 0 := rfl
@[simp] theorem State.enterAcquiring_link_history : (s.enterAcquiring).link.history = [] := rfl
@[simp] theorem State.enterAcquiring_link_expected : (s.enterAcquiring).link.expected = none := rfl
@[simp] theorem State.enterAcquiring_report_causes : (s.enterAcquiring).report.causes = s.report.causes ||| Cause.linkState.set := rfl

/-! `setWindowRecord` -/

@[simp] theorem State.setWindowRecord_decoder_policy (i : WindowId) (w : Window) : (s.setWindowRecord i w).decoder.policy = s.decoder.policy := rfl
@[simp] theorem State.setWindowRecord_decoder_dpolLatch (i : WindowId) (w : Window) : (s.setWindowRecord i w).decoder.dpolLatch = s.decoder.dpolLatch := rfl
@[simp] theorem State.setWindowRecord_upstream (i : WindowId) (w : Window) : (s.setWindowRecord i w).upstream = s.upstream := rfl
@[simp] theorem State.setWindowRecord_queue (i : WindowId) (w : Window) : (s.setWindowRecord i w).queue = s.queue := rfl
@[simp] theorem State.setWindowRecord_groups (i : WindowId) (w : Window) : (s.setWindowRecord i w).groups = s.groups := rfl
@[simp] theorem State.setWindowRecord_ready (i : WindowId) (w : Window) : (s.setWindowRecord i w).ready = s.ready := rfl
@[simp] theorem State.setWindowRecord_heldList (i : WindowId) (w : Window) : (s.setWindowRecord i w).heldList = s.heldList := rfl
@[simp] theorem State.setWindowRecord_engine (i : WindowId) (w : Window) : (s.setWindowRecord i w).engine = s.engine := rfl
@[simp] theorem State.setWindowRecord_arbiter (i : WindowId) (w : Window) : (s.setWindowRecord i w).arbiter = s.arbiter := rfl
@[simp] theorem State.setWindowRecord_link (i : WindowId) (w : Window) : (s.setWindowRecord i w).link = s.link := rfl
@[simp] theorem State.setWindowRecord_time (i : WindowId) (w : Window) : (s.setWindowRecord i w).time = s.time := rfl
@[simp] theorem State.setWindowRecord_inhibit (i : WindowId) (w : Window) : (s.setWindowRecord i w).inhibit = s.inhibit := rfl
@[simp] theorem State.setWindowRecord_report (i : WindowId) (w : Window) : (s.setWindowRecord i w).report = s.report := rfl
@[simp] theorem State.setWindowRecord_mgmt (i : WindowId) (w : Window) : (s.setWindowRecord i w).mgmt = s.mgmt := rfl
@[simp] theorem State.setWindowRecord_pins (i : WindowId) (w : Window) : (s.setWindowRecord i w).pins = s.pins := rfl
@[simp] theorem State.setWindowRecord_pending (i : WindowId) (w : Window) : (s.setWindowRecord i w).pending = s.pending := rfl
@[simp] theorem State.setWindowRecord_clocks (i : WindowId) (w : Window) : (s.setWindowRecord i w).clocks = s.clocks := rfl
@[simp] theorem State.setWindowRecord_decoder_windows (i : WindowId) (w : Window) : (s.setWindowRecord i w).decoder.windows = s.decoder.windows.set i.val w i.isLt := rfl

/-! `setLocal` -/

@[simp] theorem State.setLocal_decoder (c : Channel) (p : Profile) : (s.setLocal c p).decoder = s.decoder := rfl
@[simp] theorem State.setLocal_upstream (c : Channel) (p : Profile) : (s.setLocal c p).upstream = s.upstream := rfl
@[simp] theorem State.setLocal_queue (c : Channel) (p : Profile) : (s.setLocal c p).queue = s.queue := rfl
@[simp] theorem State.setLocal_groups (c : Channel) (p : Profile) : (s.setLocal c p).groups = s.groups := rfl
@[simp] theorem State.setLocal_ready (c : Channel) (p : Profile) : (s.setLocal c p).ready = s.ready := rfl
@[simp] theorem State.setLocal_heldList (c : Channel) (p : Profile) : (s.setLocal c p).heldList = s.heldList := rfl
@[simp] theorem State.setLocal_engine (c : Channel) (p : Profile) : (s.setLocal c p).engine = s.engine := rfl
@[simp] theorem State.setLocal_arbiter (c : Channel) (p : Profile) : (s.setLocal c p).arbiter = s.arbiter := rfl
@[simp] theorem State.setLocal_link_state (c : Channel) (p : Profile) : (s.setLocal c p).link.state = s.link.state := rfl
@[simp] theorem State.setLocal_link_carrier (c : Channel) (p : Profile) : (s.setLocal c p).link.carrier = s.link.carrier := rfl
@[simp] theorem State.setLocal_link_carrierTimer (c : Channel) (p : Profile) : (s.setLocal c p).link.carrierTimer = s.link.carrierTimer := rfl
@[simp] theorem State.setLocal_link_inFrame (c : Channel) (p : Profile) : (s.setLocal c p).link.inFrame = s.link.inFrame := rfl
@[simp] theorem State.setLocal_link_acquired (c : Channel) (p : Profile) : (s.setLocal c p).link.acquired = s.link.acquired := rfl
@[simp] theorem State.setLocal_link_history (c : Channel) (p : Profile) : (s.setLocal c p).link.history = s.link.history := rfl
@[simp] theorem State.setLocal_link_expected (c : Channel) (p : Profile) : (s.setLocal c p).link.expected = s.link.expected := rfl
@[simp] theorem State.setLocal_link_lastError (c : Channel) (p : Profile) : (s.setLocal c p).link.lastError = s.link.lastError := rfl
@[simp] theorem State.setLocal_link_station (c : Channel) (p : Profile) : (s.setLocal c p).link.station = s.link.station := rfl
@[simp] theorem State.setLocal_time (c : Channel) (p : Profile) : (s.setLocal c p).time = s.time := rfl
@[simp] theorem State.setLocal_inhibit (c : Channel) (p : Profile) : (s.setLocal c p).inhibit = s.inhibit := rfl
@[simp] theorem State.setLocal_report (c : Channel) (p : Profile) : (s.setLocal c p).report = s.report := rfl
@[simp] theorem State.setLocal_mgmt (c : Channel) (p : Profile) : (s.setLocal c p).mgmt = s.mgmt := rfl
@[simp] theorem State.setLocal_pins (c : Channel) (p : Profile) : (s.setLocal c p).pins = s.pins := rfl
@[simp] theorem State.setLocal_pending (c : Channel) (p : Profile) : (s.setLocal c p).pending = s.pending := rfl
@[simp] theorem State.setLocal_clocks (c : Channel) (p : Profile) : (s.setLocal c p).clocks = s.clocks := rfl
@[simp] theorem State.setLocal_link_localChannel (c : Channel) (p : Profile) : (s.setLocal c p).link.localChannel = c := rfl
@[simp] theorem State.setLocal_link_localProfile (c : Channel) (p : Profile) : (s.setLocal c p).link.localProfile = p := rfl

/-! `beginCycle` -/

@[simp] theorem State.beginCycle_decoder : (s.beginCycle).decoder = s.decoder := rfl
@[simp] theorem State.beginCycle_upstream_host : (s.beginCycle).upstream.host = s.upstream.host := rfl
@[simp] theorem State.beginCycle_queue : (s.beginCycle).queue = s.queue := rfl
@[simp] theorem State.beginCycle_groups : (s.beginCycle).groups = s.groups := rfl
@[simp] theorem State.beginCycle_ready : (s.beginCycle).ready = s.ready := rfl
@[simp] theorem State.beginCycle_heldList : (s.beginCycle).heldList = s.heldList := rfl
@[simp] theorem State.beginCycle_engine : (s.beginCycle).engine = s.engine := rfl
@[simp] theorem State.beginCycle_arbiter : (s.beginCycle).arbiter = s.arbiter := rfl
@[simp] theorem State.beginCycle_link : (s.beginCycle).link = s.link := rfl
@[simp] theorem State.beginCycle_time : (s.beginCycle).time = s.time := rfl
@[simp] theorem State.beginCycle_inhibit : (s.beginCycle).inhibit = s.inhibit := rfl
@[simp] theorem State.beginCycle_report : (s.beginCycle).report = s.report := rfl
@[simp] theorem State.beginCycle_mgmt : (s.beginCycle).mgmt = s.mgmt := rfl
@[simp] theorem State.beginCycle_pins : (s.beginCycle).pins = s.pins := rfl
@[simp] theorem State.beginCycle_pending : (s.beginCycle).pending = s.pending := rfl
@[simp] theorem State.beginCycle_clocks : (s.beginCycle).clocks = s.clocks := rfl
@[simp] theorem State.beginCycle_upstream_response : (s.beginCycle).upstream.response = none := rfl

/-! `pendTake` -/

@[simp] theorem State.pendTake_decoder (q : TakeQueue) : (s.pendTake q).decoder = s.decoder := rfl
@[simp] theorem State.pendTake_upstream (q : TakeQueue) : (s.pendTake q).upstream = s.upstream := rfl
@[simp] theorem State.pendTake_queue (q : TakeQueue) : (s.pendTake q).queue = s.queue := rfl
@[simp] theorem State.pendTake_groups (q : TakeQueue) : (s.pendTake q).groups = s.groups := rfl
@[simp] theorem State.pendTake_ready (q : TakeQueue) : (s.pendTake q).ready = s.ready := rfl
@[simp] theorem State.pendTake_heldList (q : TakeQueue) : (s.pendTake q).heldList = s.heldList := rfl
@[simp] theorem State.pendTake_engine (q : TakeQueue) : (s.pendTake q).engine = s.engine := rfl
@[simp] theorem State.pendTake_arbiter (q : TakeQueue) : (s.pendTake q).arbiter = s.arbiter := rfl
@[simp] theorem State.pendTake_link (q : TakeQueue) : (s.pendTake q).link = s.link := rfl
@[simp] theorem State.pendTake_time (q : TakeQueue) : (s.pendTake q).time = s.time := rfl
@[simp] theorem State.pendTake_inhibit (q : TakeQueue) : (s.pendTake q).inhibit = s.inhibit := rfl
@[simp] theorem State.pendTake_report (q : TakeQueue) : (s.pendTake q).report = s.report := rfl
@[simp] theorem State.pendTake_mgmt_phase (q : TakeQueue) : (s.pendTake q).mgmt.phase = s.mgmt.phase := rfl
@[simp] theorem State.pendTake_mgmt_command (q : TakeQueue) : (s.pendTake q).mgmt.command = s.mgmt.command := rfl
@[simp] theorem State.pendTake_mgmt_bitsIn (q : TakeQueue) : (s.pendTake q).mgmt.bitsIn = s.mgmt.bitsIn := rfl
@[simp] theorem State.pendTake_mgmt_response (q : TakeQueue) : (s.pendTake q).mgmt.response = s.mgmt.response := rfl
@[simp] theorem State.pendTake_mgmt_sent (q : TakeQueue) : (s.pendTake q).mgmt.sent = s.mgmt.sent := rfl
@[simp] theorem State.pendTake_mgmt_pendingReset (q : TakeQueue) : (s.pendTake q).mgmt.pendingReset = s.mgmt.pendingReset := rfl
@[simp] theorem State.pendTake_mgmt_select (q : TakeQueue) : (s.pendTake q).mgmt.select = s.mgmt.select := rfl
@[simp] theorem State.pendTake_pins (q : TakeQueue) : (s.pendTake q).pins = s.pins := rfl
@[simp] theorem State.pendTake_pending (q : TakeQueue) : (s.pendTake q).pending = s.pending := rfl
@[simp] theorem State.pendTake_clocks (q : TakeQueue) : (s.pendTake q).clocks = s.clocks := rfl
@[simp] theorem State.pendTake_mgmt_pendingTake (q : TakeQueue) : (s.pendTake q).mgmt.pendingTake = some q := rfl

/-! `setInhPin` -/

@[simp] theorem State.setInhPin_decoder (high : Bool) : (s.setInhPin high).decoder = s.decoder := rfl
@[simp] theorem State.setInhPin_upstream (high : Bool) : (s.setInhPin high).upstream = s.upstream := rfl
@[simp] theorem State.setInhPin_queue (high : Bool) : (s.setInhPin high).queue = s.queue := rfl
@[simp] theorem State.setInhPin_groups (high : Bool) : (s.setInhPin high).groups = s.groups := rfl
@[simp] theorem State.setInhPin_ready (high : Bool) : (s.setInhPin high).ready = s.ready := rfl
@[simp] theorem State.setInhPin_heldList (high : Bool) : (s.setInhPin high).heldList = s.heldList := rfl
@[simp] theorem State.setInhPin_engine (high : Bool) : (s.setInhPin high).engine = s.engine := rfl
@[simp] theorem State.setInhPin_arbiter (high : Bool) : (s.setInhPin high).arbiter = s.arbiter := rfl
@[simp] theorem State.setInhPin_link (high : Bool) : (s.setInhPin high).link = s.link := rfl
@[simp] theorem State.setInhPin_time (high : Bool) : (s.setInhPin high).time = s.time := rfl
@[simp] theorem State.setInhPin_inhibit (high : Bool) : (s.setInhPin high).inhibit = s.inhibit := rfl
@[simp] theorem State.setInhPin_report (high : Bool) : (s.setInhPin high).report = s.report := rfl
@[simp] theorem State.setInhPin_mgmt (high : Bool) : (s.setInhPin high).mgmt = s.mgmt := rfl
@[simp] theorem State.setInhPin_pins_rst (high : Bool) : (s.setInhPin high).pins.rst = s.pins.rst := rfl
@[simp] theorem State.setInhPin_pending (high : Bool) : (s.setInhPin high).pending = s.pending := rfl
@[simp] theorem State.setInhPin_clocks (high : Bool) : (s.setInhPin high).clocks = s.clocks := rfl
@[simp] theorem State.setInhPin_pins_inhHigh (high : Bool) : (s.setInhPin high).pins.inhHigh = high := rfl

/-! `endTransaction` -/

@[simp] theorem State.endTransaction_decoder : (s.endTransaction).decoder = s.decoder := rfl
@[simp] theorem State.endTransaction_upstream : (s.endTransaction).upstream = s.upstream := rfl
@[simp] theorem State.endTransaction_queue : (s.endTransaction).queue = s.queue := rfl
@[simp] theorem State.endTransaction_groups : (s.endTransaction).groups = s.groups := rfl
@[simp] theorem State.endTransaction_ready : (s.endTransaction).ready = s.ready := rfl
@[simp] theorem State.endTransaction_heldList : (s.endTransaction).heldList = s.heldList := rfl
@[simp] theorem State.endTransaction_engine : (s.endTransaction).engine = s.engine := rfl
@[simp] theorem State.endTransaction_arbiter : (s.endTransaction).arbiter = s.arbiter := rfl
@[simp] theorem State.endTransaction_link : (s.endTransaction).link = s.link := rfl
@[simp] theorem State.endTransaction_time : (s.endTransaction).time = s.time := rfl
@[simp] theorem State.endTransaction_inhibit : (s.endTransaction).inhibit = s.inhibit := rfl
@[simp] theorem State.endTransaction_report : (s.endTransaction).report = s.report := rfl
@[simp] theorem State.endTransaction_pins : (s.endTransaction).pins = s.pins := rfl
@[simp] theorem State.endTransaction_pending : (s.endTransaction).pending = s.pending := rfl
@[simp] theorem State.endTransaction_clocks : (s.endTransaction).clocks = s.clocks := rfl
@[simp] theorem State.endTransaction_mgmt : (s.endTransaction).mgmt = Mgmt.idleAt false := rfl

/-! `drainPort` -/

@[simp] theorem State.drainPort_decoder : (s.drainPort).decoder = s.decoder := rfl
@[simp] theorem State.drainPort_upstream : (s.drainPort).upstream = s.upstream := rfl
@[simp] theorem State.drainPort_queue : (s.drainPort).queue = s.queue := rfl
@[simp] theorem State.drainPort_groups : (s.drainPort).groups = s.groups := rfl
@[simp] theorem State.drainPort_ready : (s.drainPort).ready = s.ready := rfl
@[simp] theorem State.drainPort_heldList : (s.drainPort).heldList = s.heldList := rfl
@[simp] theorem State.drainPort_arbiter_burstLimit : (s.drainPort).arbiter.burstLimit = s.arbiter.burstLimit := rfl
@[simp] theorem State.drainPort_arbiter_dTimeout : (s.drainPort).arbiter.dTimeout = s.arbiter.dTimeout := rfl
@[simp] theorem State.drainPort_link : (s.drainPort).link = s.link := rfl
@[simp] theorem State.drainPort_time : (s.drainPort).time = s.time := rfl
@[simp] theorem State.drainPort_inhibit : (s.drainPort).inhibit = s.inhibit := rfl
@[simp] theorem State.drainPort_report : (s.drainPort).report = s.report := rfl
@[simp] theorem State.drainPort_mgmt : (s.drainPort).mgmt = s.mgmt := rfl
@[simp] theorem State.drainPort_pins : (s.drainPort).pins = s.pins := rfl
@[simp] theorem State.drainPort_pending : (s.drainPort).pending = s.pending := rfl
@[simp] theorem State.drainPort_clocks : (s.drainPort).clocks = s.clocks := rfl
@[simp] theorem State.drainPort_engine_phase : (s.drainPort).engine.phase = s.arbiter.port.enginePhase := rfl
@[simp] theorem State.drainPort_engine_tally : (s.drainPort).engine.tally = noTally := rfl
@[simp] theorem State.drainPort_arbiter_port : (s.drainPort).arbiter.port = s.arbiter.port.drain := rfl
@[simp] theorem State.drainPort_arbiter_burst : (s.drainPort).arbiter.burst = 0 := rfl

/-! `countTick` -/

@[simp] theorem State.countTick_decoder : (s.countTick).decoder = s.decoder := rfl
@[simp] theorem State.countTick_upstream : (s.countTick).upstream = s.upstream := rfl
@[simp] theorem State.countTick_queue_entries : (s.countTick).queue.entries = s.queue.entries := rfl
@[simp] theorem State.countTick_queue_arrival : (s.countTick).queue.arrival = s.queue.arrival := rfl
@[simp] theorem State.countTick_queue_held : (s.countTick).queue.held = s.queue.held := rfl
@[simp] theorem State.countTick_queue_holdLimit : (s.countTick).queue.holdLimit = s.queue.holdLimit := rfl
@[simp] theorem State.countTick_ready : (s.countTick).ready = s.ready := rfl
@[simp] theorem State.countTick_heldList : (s.countTick).heldList = s.heldList := rfl
@[simp] theorem State.countTick_engine : (s.countTick).engine = s.engine := rfl
@[simp] theorem State.countTick_arbiter_burst : (s.countTick).arbiter.burst = s.arbiter.burst := rfl
@[simp] theorem State.countTick_arbiter_burstLimit : (s.countTick).arbiter.burstLimit = s.arbiter.burstLimit := rfl
@[simp] theorem State.countTick_arbiter_dTimeout : (s.countTick).arbiter.dTimeout = s.arbiter.dTimeout := rfl
@[simp] theorem State.countTick_link_state : (s.countTick).link.state = s.link.state := rfl
@[simp] theorem State.countTick_link_carrier : (s.countTick).link.carrier = s.link.carrier := rfl
@[simp] theorem State.countTick_link_inFrame : (s.countTick).link.inFrame = s.link.inFrame := rfl
@[simp] theorem State.countTick_link_acquired : (s.countTick).link.acquired = s.link.acquired := rfl
@[simp] theorem State.countTick_link_history : (s.countTick).link.history = s.link.history := rfl
@[simp] theorem State.countTick_link_expected : (s.countTick).link.expected = s.link.expected := rfl
@[simp] theorem State.countTick_link_lastError : (s.countTick).link.lastError = s.link.lastError := rfl
@[simp] theorem State.countTick_link_station : (s.countTick).link.station = s.link.station := rfl
@[simp] theorem State.countTick_link_localChannel : (s.countTick).link.localChannel = s.link.localChannel := rfl
@[simp] theorem State.countTick_link_localProfile : (s.countTick).link.localProfile = s.link.localProfile := rfl
@[simp] theorem State.countTick_time_source : (s.countTick).time.source = s.time.source := rfl
@[simp] theorem State.countTick_time_supplier : (s.countTick).time.supplier = s.time.supplier := rfl
@[simp] theorem State.countTick_time_holdover : (s.countTick).time.holdover = s.time.holdover := rfl
@[simp] theorem State.countTick_time_generation : (s.countTick).time.generation = s.time.generation := rfl
@[simp] theorem State.countTick_time_lastEpoch : (s.countTick).time.lastEpoch = s.time.lastEpoch := rfl
@[simp] theorem State.countTick_inhibit : (s.countTick).inhibit = s.inhibit := rfl
@[simp] theorem State.countTick_report : (s.countTick).report = s.report := rfl
@[simp] theorem State.countTick_mgmt : (s.countTick).mgmt = s.mgmt := rfl
@[simp] theorem State.countTick_pins : (s.countTick).pins = s.pins := rfl
@[simp] theorem State.countTick_pending : (s.countTick).pending = s.pending := rfl
@[simp] theorem State.countTick_clocks : (s.countTick).clocks = s.clocks := rfl
@[simp] theorem State.countTick_queue_holdTimer : (s.countTick).queue.holdTimer = s.queue.holdTimer.tick := rfl
@[simp] theorem State.countTick_groups : (s.countTick).groups = s.groups.map (fun g => { g with timer := g.timer.tick }) := rfl
@[simp] theorem State.countTick_arbiter_port : (s.countTick).arbiter.port = s.arbiter.port.tick := rfl
@[simp] theorem State.countTick_link_carrierTimer : (s.countTick).link.carrierTimer = s.link.carrierTimer.tick := rfl
@[simp] theorem State.countTick_time_counter : (s.countTick).time.counter = s.time.counter + 1 := rfl
@[simp] theorem State.countTick_time_tickFrom : (s.countTick).time.tickFrom = s.time.supplier := rfl

/-! `pinReset` -/

@[simp] theorem State.pinReset_decoder_policy : (s.pinReset).decoder.policy = s.decoder.policy := rfl
@[simp] theorem State.pinReset_decoder_dpolLatch : (s.pinReset).decoder.dpolLatch = s.decoder.dpolLatch := rfl
@[simp] theorem State.pinReset_link_station : (s.pinReset).link.station = s.link.station := rfl
@[simp] theorem State.pinReset_mgmt_select : (s.pinReset).mgmt.select = s.mgmt.select := rfl
@[simp] theorem State.pinReset_pins_inhHigh : (s.pinReset).pins.inhHigh = s.pins.inhHigh := rfl
@[simp] theorem State.pinReset_pending : (s.pinReset).pending = s.pending := rfl
@[simp] theorem State.pinReset_clocks : (s.pinReset).clocks = s.clocks := rfl
@[simp] theorem State.pinReset_decoder_windows : (s.pinReset).decoder.windows = Vector.replicate 16 Window.reset := rfl
@[simp] theorem State.pinReset_upstream : (s.pinReset).upstream = ⟨none, none⟩ := rfl
@[simp] theorem State.pinReset_queue : (s.pinReset).queue = Queue.reset := rfl
@[simp] theorem State.pinReset_groups : (s.pinReset).groups = Vector.replicate 8 Group.reset := rfl
@[simp] theorem State.pinReset_ready : (s.pinReset).ready = [] := rfl
@[simp] theorem State.pinReset_heldList : (s.pinReset).heldList = [] := rfl
@[simp] theorem State.pinReset_engine : (s.pinReset).engine = Engine.reset := rfl
@[simp] theorem State.pinReset_arbiter : (s.pinReset).arbiter = Arbiter.reset := rfl
@[simp] theorem State.pinReset_time : (s.pinReset).time = TimeBase.reset := rfl
@[simp] theorem State.pinReset_inhibit : (s.pinReset).inhibit = Inhibit.reset false := rfl
@[simp] theorem State.pinReset_report : (s.pinReset).report = Report.reset := rfl
@[simp] theorem State.pinReset_link : (s.pinReset).link = Link.reset s.link.station := rfl
@[simp] theorem State.pinReset_mgmt : (s.pinReset).mgmt = Mgmt.idleAt s.mgmt.select := rfl
@[simp] theorem State.pinReset_pins_rst : (s.pinReset).pins.rst = true := rfl

/-! `releaseReset` -/

@[simp] theorem State.releaseReset_decoder_windows (stn : Byte) (dpol : Bool) : (s.releaseReset stn dpol).decoder.windows = s.decoder.windows := rfl
@[simp] theorem State.releaseReset_upstream (stn : Byte) (dpol : Bool) : (s.releaseReset stn dpol).upstream = s.upstream := rfl
@[simp] theorem State.releaseReset_queue (stn : Byte) (dpol : Bool) : (s.releaseReset stn dpol).queue = s.queue := rfl
@[simp] theorem State.releaseReset_groups (stn : Byte) (dpol : Bool) : (s.releaseReset stn dpol).groups = s.groups := rfl
@[simp] theorem State.releaseReset_ready (stn : Byte) (dpol : Bool) : (s.releaseReset stn dpol).ready = s.ready := rfl
@[simp] theorem State.releaseReset_heldList (stn : Byte) (dpol : Bool) : (s.releaseReset stn dpol).heldList = s.heldList := rfl
@[simp] theorem State.releaseReset_engine (stn : Byte) (dpol : Bool) : (s.releaseReset stn dpol).engine = s.engine := rfl
@[simp] theorem State.releaseReset_arbiter (stn : Byte) (dpol : Bool) : (s.releaseReset stn dpol).arbiter = s.arbiter := rfl
@[simp] theorem State.releaseReset_link_state (stn : Byte) (dpol : Bool) : (s.releaseReset stn dpol).link.state = s.link.state := rfl
@[simp] theorem State.releaseReset_link_carrier (stn : Byte) (dpol : Bool) : (s.releaseReset stn dpol).link.carrier = s.link.carrier := rfl
@[simp] theorem State.releaseReset_link_carrierTimer (stn : Byte) (dpol : Bool) : (s.releaseReset stn dpol).link.carrierTimer = s.link.carrierTimer := rfl
@[simp] theorem State.releaseReset_link_inFrame (stn : Byte) (dpol : Bool) : (s.releaseReset stn dpol).link.inFrame = s.link.inFrame := rfl
@[simp] theorem State.releaseReset_link_acquired (stn : Byte) (dpol : Bool) : (s.releaseReset stn dpol).link.acquired = s.link.acquired := rfl
@[simp] theorem State.releaseReset_link_history (stn : Byte) (dpol : Bool) : (s.releaseReset stn dpol).link.history = s.link.history := rfl
@[simp] theorem State.releaseReset_link_expected (stn : Byte) (dpol : Bool) : (s.releaseReset stn dpol).link.expected = s.link.expected := rfl
@[simp] theorem State.releaseReset_link_lastError (stn : Byte) (dpol : Bool) : (s.releaseReset stn dpol).link.lastError = s.link.lastError := rfl
@[simp] theorem State.releaseReset_link_localChannel (stn : Byte) (dpol : Bool) : (s.releaseReset stn dpol).link.localChannel = s.link.localChannel := rfl
@[simp] theorem State.releaseReset_link_localProfile (stn : Byte) (dpol : Bool) : (s.releaseReset stn dpol).link.localProfile = s.link.localProfile := rfl
@[simp] theorem State.releaseReset_time (stn : Byte) (dpol : Bool) : (s.releaseReset stn dpol).time = s.time := rfl
@[simp] theorem State.releaseReset_inhibit_onLinkLoss (stn : Byte) (dpol : Bool) : (s.releaseReset stn dpol).inhibit.onLinkLoss = s.inhibit.onLinkLoss := rfl
@[simp] theorem State.releaseReset_report (stn : Byte) (dpol : Bool) : (s.releaseReset stn dpol).report = s.report := rfl
@[simp] theorem State.releaseReset_mgmt (stn : Byte) (dpol : Bool) : (s.releaseReset stn dpol).mgmt = s.mgmt := rfl
@[simp] theorem State.releaseReset_pins_inhHigh (stn : Byte) (dpol : Bool) : (s.releaseReset stn dpol).pins.inhHigh = s.pins.inhHigh := rfl
@[simp] theorem State.releaseReset_pending (stn : Byte) (dpol : Bool) : (s.releaseReset stn dpol).pending = s.pending := rfl
@[simp] theorem State.releaseReset_clocks (stn : Byte) (dpol : Bool) : (s.releaseReset stn dpol).clocks = s.clocks := rfl
@[simp] theorem State.releaseReset_decoder_policy (stn : Byte) (dpol : Bool) : (s.releaseReset stn dpol).decoder.policy = Policy.ofStrap dpol := rfl
@[simp] theorem State.releaseReset_decoder_dpolLatch (stn : Byte) (dpol : Bool) : (s.releaseReset stn dpol).decoder.dpolLatch = dpol := rfl
@[simp] theorem State.releaseReset_link_station (stn : Byte) (dpol : Bool) : (s.releaseReset stn dpol).link.station = stn := rfl
@[simp] theorem State.releaseReset_inhibit_sources (stn : Byte) (dpol : Bool) : (s.releaseReset stn dpol).inhibit.sources = { s.inhibit.sources with pin := s.pins.inhHigh } := rfl
@[simp] theorem State.releaseReset_pins_rst (stn : Byte) (dpol : Bool) : (s.releaseReset stn dpol).pins.rst = false := rfl

/-! `reply` -/

@[simp] theorem State.reply_decoder (i : Instr) (status : Status) (results : List Byte) : (s.reply i status results).decoder = s.decoder := rfl
@[simp] theorem State.reply_upstream (i : Instr) (status : Status) (results : List Byte) : (s.reply i status results).upstream = s.upstream := rfl
@[simp] theorem State.reply_queue (i : Instr) (status : Status) (results : List Byte) : (s.reply i status results).queue = s.queue := rfl
@[simp] theorem State.reply_groups (i : Instr) (status : Status) (results : List Byte) : (s.reply i status results).groups = s.groups := rfl
@[simp] theorem State.reply_ready (i : Instr) (status : Status) (results : List Byte) : (s.reply i status results).ready = s.ready := rfl
@[simp] theorem State.reply_heldList (i : Instr) (status : Status) (results : List Byte) : (s.reply i status results).heldList = s.heldList := rfl
@[simp] theorem State.reply_engine (i : Instr) (status : Status) (results : List Byte) : (s.reply i status results).engine = s.engine := rfl
@[simp] theorem State.reply_arbiter (i : Instr) (status : Status) (results : List Byte) : (s.reply i status results).arbiter = s.arbiter := rfl
@[simp] theorem State.reply_link (i : Instr) (status : Status) (results : List Byte) : (s.reply i status results).link = s.link := rfl
@[simp] theorem State.reply_time (i : Instr) (status : Status) (results : List Byte) : (s.reply i status results).time = s.time := rfl
@[simp] theorem State.reply_inhibit (i : Instr) (status : Status) (results : List Byte) : (s.reply i status results).inhibit = s.inhibit := rfl
@[simp] theorem State.reply_report (i : Instr) (status : Status) (results : List Byte) : (s.reply i status results).report = s.report := rfl
@[simp] theorem State.reply_mgmt_pendingTake (i : Instr) (status : Status) (results : List Byte) : (s.reply i status results).mgmt.pendingTake = s.mgmt.pendingTake := rfl
@[simp] theorem State.reply_mgmt_pendingReset (i : Instr) (status : Status) (results : List Byte) : (s.reply i status results).mgmt.pendingReset = s.mgmt.pendingReset := rfl
@[simp] theorem State.reply_mgmt_select (i : Instr) (status : Status) (results : List Byte) : (s.reply i status results).mgmt.select = s.mgmt.select := rfl
@[simp] theorem State.reply_pins (i : Instr) (status : Status) (results : List Byte) : (s.reply i status results).pins = s.pins := rfl
@[simp] theorem State.reply_pending (i : Instr) (status : Status) (results : List Byte) : (s.reply i status results).pending = s.pending := rfl
@[simp] theorem State.reply_clocks (i : Instr) (status : Status) (results : List Byte) : (s.reply i status results).clocks = s.clocks := rfl
@[simp] theorem State.reply_mgmt_phase (i : Instr) (status : Status) (results : List Byte) : (s.reply i status results).mgmt.phase = .response := rfl
@[simp] theorem State.reply_mgmt_command (i : Instr) (status : Status) (results : List Byte) : (s.reply i status results).mgmt.command = i.message := rfl
@[simp] theorem State.reply_mgmt_response (i : Instr) (status : Status) (results : List Byte) : (s.reply i status results).mgmt.response = some ⟨status, results⟩ := rfl
@[simp] theorem State.reply_mgmt_bitsIn (i : Instr) (status : Status) (results : List Byte) : (s.reply i status results).mgmt.bitsIn = [] := rfl
@[simp] theorem State.reply_mgmt_sent (i : Instr) (status : Status) (results : List Byte) : (s.reply i status results).mgmt.sent = 0 := rfl

/-! ### The wires of the management port -/

/-! `endGroup` -/

@[simp] theorem State.endGroup_decoder : (s.endGroup).decoder = s.decoder := rfl
@[simp] theorem State.endGroup_upstream : (s.endGroup).upstream = s.upstream := rfl
@[simp] theorem State.endGroup_queue : (s.endGroup).queue = s.queue := rfl
@[simp] theorem State.endGroup_groups : (s.endGroup).groups = s.groups := rfl
@[simp] theorem State.endGroup_ready : (s.endGroup).ready = s.ready := rfl
@[simp] theorem State.endGroup_heldList : (s.endGroup).heldList = s.heldList := rfl
@[simp] theorem State.endGroup_engine : (s.endGroup).engine = s.engine := rfl
@[simp] theorem State.endGroup_arbiter : (s.endGroup).arbiter = s.arbiter := rfl
@[simp] theorem State.endGroup_link : (s.endGroup).link = s.link := rfl
@[simp] theorem State.endGroup_time : (s.endGroup).time = s.time := rfl
@[simp] theorem State.endGroup_inhibit : (s.endGroup).inhibit = s.inhibit := rfl
@[simp] theorem State.endGroup_report : (s.endGroup).report = s.report := rfl
@[simp] theorem State.endGroup_pins : (s.endGroup).pins = s.pins := rfl
@[simp] theorem State.endGroup_pending : (s.endGroup).pending = s.pending := rfl
@[simp] theorem State.endGroup_clocks : (s.endGroup).clocks = s.clocks := rfl
@[simp] theorem State.endGroup_mgmt_phase : (s.endGroup).mgmt.phase = s.mgmt.phase := rfl
@[simp] theorem State.endGroup_mgmt_command : (s.endGroup).mgmt.command = s.mgmt.command := rfl
@[simp] theorem State.endGroup_mgmt_bitsIn : (s.endGroup).mgmt.bitsIn = [] := rfl
@[simp] theorem State.endGroup_mgmt_response : (s.endGroup).mgmt.response = s.mgmt.response := rfl
@[simp] theorem State.endGroup_mgmt_sent : (s.endGroup).mgmt.sent = s.mgmt.sent := rfl
@[simp] theorem State.endGroup_mgmt_pendingTake : (s.endGroup).mgmt.pendingTake = s.mgmt.pendingTake := rfl
@[simp] theorem State.endGroup_mgmt_pendingReset : (s.endGroup).mgmt.pendingReset = s.mgmt.pendingReset := rfl
@[simp] theorem State.endGroup_mgmt_select : (s.endGroup).mgmt.select = s.mgmt.select := rfl

/-! `storeByte` -/

@[simp] theorem State.storeByte_decoder (b : Byte) : (s.storeByte b).decoder = s.decoder := rfl
@[simp] theorem State.storeByte_upstream (b : Byte) : (s.storeByte b).upstream = s.upstream := rfl
@[simp] theorem State.storeByte_queue (b : Byte) : (s.storeByte b).queue = s.queue := rfl
@[simp] theorem State.storeByte_groups (b : Byte) : (s.storeByte b).groups = s.groups := rfl
@[simp] theorem State.storeByte_ready (b : Byte) : (s.storeByte b).ready = s.ready := rfl
@[simp] theorem State.storeByte_heldList (b : Byte) : (s.storeByte b).heldList = s.heldList := rfl
@[simp] theorem State.storeByte_engine (b : Byte) : (s.storeByte b).engine = s.engine := rfl
@[simp] theorem State.storeByte_arbiter (b : Byte) : (s.storeByte b).arbiter = s.arbiter := rfl
@[simp] theorem State.storeByte_link (b : Byte) : (s.storeByte b).link = s.link := rfl
@[simp] theorem State.storeByte_time (b : Byte) : (s.storeByte b).time = s.time := rfl
@[simp] theorem State.storeByte_inhibit (b : Byte) : (s.storeByte b).inhibit = s.inhibit := rfl
@[simp] theorem State.storeByte_report (b : Byte) : (s.storeByte b).report = s.report := rfl
@[simp] theorem State.storeByte_pins (b : Byte) : (s.storeByte b).pins = s.pins := rfl
@[simp] theorem State.storeByte_pending (b : Byte) : (s.storeByte b).pending = s.pending := rfl
@[simp] theorem State.storeByte_clocks (b : Byte) : (s.storeByte b).clocks = s.clocks := rfl
@[simp] theorem State.storeByte_mgmt_phase (b : Byte) : (s.storeByte b).mgmt.phase = s.mgmt.phase := rfl
@[simp] theorem State.storeByte_mgmt_command (b : Byte) : (s.storeByte b).mgmt.command = s.mgmt.command ++ [b] := rfl
@[simp] theorem State.storeByte_mgmt_bitsIn (b : Byte) : (s.storeByte b).mgmt.bitsIn = [] := rfl
@[simp] theorem State.storeByte_mgmt_response (b : Byte) : (s.storeByte b).mgmt.response = s.mgmt.response := rfl
@[simp] theorem State.storeByte_mgmt_sent (b : Byte) : (s.storeByte b).mgmt.sent = s.mgmt.sent := rfl
@[simp] theorem State.storeByte_mgmt_pendingTake (b : Byte) : (s.storeByte b).mgmt.pendingTake = s.mgmt.pendingTake := rfl
@[simp] theorem State.storeByte_mgmt_pendingReset (b : Byte) : (s.storeByte b).mgmt.pendingReset = s.mgmt.pendingReset := rfl
@[simp] theorem State.storeByte_mgmt_select (b : Byte) : (s.storeByte b).mgmt.select = s.mgmt.select := rfl

/-! `countSent` -/

@[simp] theorem State.countSent_decoder : (s.countSent).decoder = s.decoder := rfl
@[simp] theorem State.countSent_upstream : (s.countSent).upstream = s.upstream := rfl
@[simp] theorem State.countSent_queue : (s.countSent).queue = s.queue := rfl
@[simp] theorem State.countSent_groups : (s.countSent).groups = s.groups := rfl
@[simp] theorem State.countSent_ready : (s.countSent).ready = s.ready := rfl
@[simp] theorem State.countSent_heldList : (s.countSent).heldList = s.heldList := rfl
@[simp] theorem State.countSent_engine : (s.countSent).engine = s.engine := rfl
@[simp] theorem State.countSent_arbiter : (s.countSent).arbiter = s.arbiter := rfl
@[simp] theorem State.countSent_link : (s.countSent).link = s.link := rfl
@[simp] theorem State.countSent_time : (s.countSent).time = s.time := rfl
@[simp] theorem State.countSent_inhibit : (s.countSent).inhibit = s.inhibit := rfl
@[simp] theorem State.countSent_report : (s.countSent).report = s.report := rfl
@[simp] theorem State.countSent_pins : (s.countSent).pins = s.pins := rfl
@[simp] theorem State.countSent_pending : (s.countSent).pending = s.pending := rfl
@[simp] theorem State.countSent_clocks : (s.countSent).clocks = s.clocks := rfl
@[simp] theorem State.countSent_mgmt_phase : (s.countSent).mgmt.phase = s.mgmt.phase := rfl
@[simp] theorem State.countSent_mgmt_command : (s.countSent).mgmt.command = s.mgmt.command := rfl
@[simp] theorem State.countSent_mgmt_bitsIn : (s.countSent).mgmt.bitsIn = [] := rfl
@[simp] theorem State.countSent_mgmt_response : (s.countSent).mgmt.response = s.mgmt.response := rfl
@[simp] theorem State.countSent_mgmt_sent : (s.countSent).mgmt.sent = s.mgmt.sent + 1 := rfl
@[simp] theorem State.countSent_mgmt_pendingTake : (s.countSent).mgmt.pendingTake = s.mgmt.pendingTake := rfl
@[simp] theorem State.countSent_mgmt_pendingReset : (s.countSent).mgmt.pendingReset = s.mgmt.pendingReset := rfl
@[simp] theorem State.countSent_mgmt_select : (s.countSent).mgmt.select = s.mgmt.select := rfl

/-! ### One group under an update of groups -/

/-- A group after an update: the one named is changed, the others stay. -/
theorem State.updGroup_get (g h : GroupId) (f : Group → Group) :
    (s.updGroup g f).groups[h.val] = if h = g then f s.groups[g.val] else s.groups[h.val] := by
  simp only [State.updGroup_groups, Vector.getElem_set, Fin.ext_iff, eq_comm (a := g.val)]; rfl

/-- The named group after an update. -/
@[simp] theorem State.updGroup_get_self (g : GroupId) (f : Group → Group) :
    (s.updGroup g f).groups[g.val] = f s.groups[g.val] := by
  simp [State.updGroup_get]

/-- An update that keeps a part of every record keeps it in every group. -/
theorem State.updGroup_part {α : Type} (p : Group → α) (g h : GroupId) (f : Group → Group) (hf : ∀ r, p (f r) = p r) :
    p (s.updGroup g f).groups[h.val] = p s.groups[h.val] := by
  rw [State.updGroup_get]; split
  · subst h; exact hf _
  · rfl

/-- An update that keeps every configuration keeps each group's. -/
@[simp] theorem State.updGroup_config (g h : GroupId) (f : Group → Group) (hf : ∀ r, (f r).config = r.config) :
    (s.updGroup g f).groups[h.val].config = s.groups[h.val].config :=
  s.updGroup_part Group.config g h f hf

@[simp] theorem State.setup_config (choice : ChannelChoice) (p : Profile) (h : GroupId) :
    (s.setup choice p).groups[h.val].config = s.groups[h.val].config := by
  simp only [State.setup_groups, Vector.getElem_map]; split <;> simp

@[simp] theorem State.countTick_config (h : GroupId) :
    s.countTick.groups[h.val].config = s.groups[h.val].config := by
  simp

end Sys2Proof.Machine
end

