-- ==== Sys2Proof/Laws/Frames.lean ====
section
/-! SUPPORT. What each shared operation leaves unchanged: one lemma for each operation, whose parts simp uses apart. -/

namespace Sys2Proof.Machine

/-- What each step of a fold keeps, the fold keeps. -/
theorem foldl_keeps {α β γ : Type} (p : β → γ) (f : β → α → β) (h : ∀ b a, p (f b a) = p b) (l : List α) (b : β) :
    p (l.foldl f b) = p b := by
  induction l generalizing b with
  | nil => rfl
  | cons a l ih => rw [List.foldl_cons, ih, h]

@[simp] theorem State.postCompletion_keeps (s : State) (c : Completion) :
    (s.postCompletion c).decoder = s.decoder ∧ (s.postCompletion c).upstream = s.upstream ∧
    (s.postCompletion c).queue = s.queue ∧ (s.postCompletion c).groups = s.groups ∧ (s.postCompletion c).ready = s.ready ∧
    (s.postCompletion c).heldList = s.heldList ∧ (s.postCompletion c).engine = s.engine ∧
    (s.postCompletion c).arbiter = s.arbiter ∧ (s.postCompletion c).link = s.link ∧ (s.postCompletion c).time = s.time ∧
    (s.postCompletion c).inhibit = s.inhibit ∧ (s.postCompletion c).report.mask = s.report.mask ∧
    (s.postCompletion c).report.events = s.report.events ∧ (s.postCompletion c).report.refusal = s.report.refusal ∧
    (s.postCompletion c).mgmt = s.mgmt ∧ (s.postCompletion c).pins = s.pins ∧ (s.postCompletion c).pending = s.pending ∧
    (s.postCompletion c).clocks = s.clocks := by
  simp only [State.postCompletion]; (repeat' split) <;> simp

@[simp] theorem State.postEvent_keeps (s : State) (e : EventRecord) :
    (s.postEvent e).decoder = s.decoder ∧ (s.postEvent e).upstream = s.upstream ∧ (s.postEvent e).queue = s.queue ∧
    (s.postEvent e).groups = s.groups ∧ (s.postEvent e).ready = s.ready ∧ (s.postEvent e).heldList = s.heldList ∧
    (s.postEvent e).engine = s.engine ∧ (s.postEvent e).arbiter = s.arbiter ∧ (s.postEvent e).link = s.link ∧
    (s.postEvent e).time = s.time ∧ (s.postEvent e).inhibit = s.inhibit ∧ (s.postEvent e).report.mask = s.report.mask ∧
    (s.postEvent e).report.completions = s.report.completions ∧ (s.postEvent e).report.refusal = s.report.refusal ∧
    (s.postEvent e).mgmt = s.mgmt ∧ (s.postEvent e).pins = s.pins ∧ (s.postEvent e).pending = s.pending ∧
    (s.postEvent e).clocks = s.clocks := by
  simp only [State.postEvent]; (repeat' split) <;> simp

@[simp] theorem State.noSpace_keeps (s : State) (w : StagedWrite) :
    (s.noSpace w).decoder = s.decoder ∧ (s.noSpace w).upstream.host = s.upstream.host ∧
    (s.noSpace w).queue.entries = s.queue.entries ∧ (s.noSpace w).queue.arrival = s.queue.arrival ∧
    (s.noSpace w).queue.holdLimit = s.queue.holdLimit ∧ (s.noSpace w).groups = s.groups ∧ (s.noSpace w).ready = s.ready ∧
    (s.noSpace w).heldList = s.heldList ∧ (s.noSpace w).engine = s.engine ∧ (s.noSpace w).arbiter = s.arbiter ∧
    (s.noSpace w).link = s.link ∧ (s.noSpace w).time = s.time ∧ (s.noSpace w).inhibit = s.inhibit ∧
    (s.noSpace w).report.mask = s.report.mask ∧ (s.noSpace w).report.completions = s.report.completions ∧
    (s.noSpace w).report.events = s.report.events ∧ (s.noSpace w).report.refusal = s.report.refusal ∧
    (s.noSpace w).mgmt = s.mgmt ∧ (s.noSpace w).pins = s.pins ∧ (s.noSpace w).pending = s.pending ∧
    (s.noSpace w).clocks = s.clocks := by
  simp only [State.noSpace]; (repeat' split) <;> simp

@[simp] theorem State.holdTest_keeps (s : State) :
    (s.holdTest).decoder = s.decoder ∧ (s.holdTest).upstream.host = s.upstream.host ∧
    (s.holdTest).queue.holdLimit = s.queue.holdLimit ∧ (s.holdTest).groups = s.groups ∧ (s.holdTest).ready = s.ready ∧
    (s.holdTest).heldList = s.heldList ∧ (s.holdTest).engine = s.engine ∧ (s.holdTest).arbiter = s.arbiter ∧
    (s.holdTest).link = s.link ∧ (s.holdTest).time = s.time ∧ (s.holdTest).inhibit = s.inhibit ∧
    (s.holdTest).report = s.report ∧ (s.holdTest).mgmt = s.mgmt ∧ (s.holdTest).pins = s.pins ∧
    (s.holdTest).pending = s.pending ∧ (s.holdTest).clocks = s.clocks := by
  simp only [State.holdTest]; (repeat' split) <;> simp

@[simp] theorem State.toReady_keeps (s : State) (g : GroupId) :
    (s.toReady g).decoder = s.decoder ∧ (s.toReady g).upstream = s.upstream ∧ (s.toReady g).queue = s.queue ∧
    (s.toReady g).engine = s.engine ∧ (s.toReady g).arbiter = s.arbiter ∧ (s.toReady g).link = s.link ∧
    (s.toReady g).time = s.time ∧ (s.toReady g).inhibit = s.inhibit ∧ (s.toReady g).report = s.report ∧
    (s.toReady g).mgmt = s.mgmt ∧ (s.toReady g).pins = s.pins ∧ (s.toReady g).pending = s.pending ∧
    (s.toReady g).clocks = s.clocks := by
  simp only [State.toReady]; (repeat' split) <;> simp

@[simp] theorem State.toReady_config (s : State) (g : GroupId) (h : GroupId) :
    (s.toReady g).groups[h.val].config = s.groups[h.val].config := by
  simp only [State.toReady]; (repeat' split) <;> simp

@[simp] theorem State.grantHost_keeps (s : State) :
    (s.grantHost).decoder = s.decoder ∧ (s.grantHost).upstream.response = s.upstream.response ∧
    (s.grantHost).queue = s.queue ∧ (s.grantHost).groups = s.groups ∧ (s.grantHost).ready = s.ready ∧
    (s.grantHost).heldList = s.heldList ∧ (s.grantHost).engine = s.engine ∧
    (s.grantHost).arbiter.burstLimit = s.arbiter.burstLimit ∧ (s.grantHost).arbiter.dTimeout = s.arbiter.dTimeout ∧
    (s.grantHost).link = s.link ∧ (s.grantHost).time = s.time ∧ (s.grantHost).inhibit = s.inhibit ∧
    (s.grantHost).report = s.report ∧ (s.grantHost).mgmt = s.mgmt ∧ (s.grantHost).pins = s.pins ∧
    (s.grantHost).pending = s.pending ∧ (s.grantHost).clocks = s.clocks := by
  simp only [State.grantHost]; (repeat' split) <;> simp

@[simp] theorem State.grantEngine_keeps (s : State) :
    (s.grantEngine).decoder = s.decoder ∧ (s.grantEngine).upstream = s.upstream ∧ (s.grantEngine).queue = s.queue ∧
    (s.grantEngine).groups = s.groups ∧ (s.grantEngine).ready = s.ready ∧ (s.grantEngine).heldList = s.heldList ∧
    (s.grantEngine).engine.tally = s.engine.tally ∧ (s.grantEngine).arbiter.burstLimit = s.arbiter.burstLimit ∧
    (s.grantEngine).arbiter.dTimeout = s.arbiter.dTimeout ∧ (s.grantEngine).link = s.link ∧
    (s.grantEngine).time = s.time ∧ (s.grantEngine).inhibit = s.inhibit ∧ (s.grantEngine).report = s.report ∧
    (s.grantEngine).mgmt = s.mgmt ∧ (s.grantEngine).pins = s.pins ∧ (s.grantEngine).pending = s.pending ∧
    (s.grantEngine).clocks = s.clocks := by
  simp only [State.grantEngine]; (repeat' split) <;> simp

@[simp] theorem State.takeHead_keeps (s : State) :
    (s.takeHead).decoder = s.decoder ∧ (s.takeHead).upstream = s.upstream ∧ (s.takeHead).queue = s.queue ∧
    (s.takeHead).heldList = s.heldList ∧ (s.takeHead).engine.tally = s.engine.tally ∧ (s.takeHead).arbiter = s.arbiter ∧
    (s.takeHead).link = s.link ∧ (s.takeHead).time = s.time ∧ (s.takeHead).inhibit = s.inhibit ∧
    (s.takeHead).report = s.report ∧ (s.takeHead).mgmt = s.mgmt ∧ (s.takeHead).pins = s.pins ∧
    (s.takeHead).pending = s.pending ∧ (s.takeHead).clocks = s.clocks := by
  simp only [State.takeHead]; (repeat' split) <;> simp

@[simp] theorem State.takeHead_config (s : State) (h : GroupId) :
    (s.takeHead).groups[h.val].config = s.groups[h.val].config := by
  unfold State.takeHead; (repeat' split) <;> simp

@[simp] theorem State.hostDone_keeps (s : State) (data : WordData) :
    (s.hostDone data).decoder = s.decoder ∧ (s.hostDone data).queue = s.queue ∧ (s.hostDone data).groups = s.groups ∧
    (s.hostDone data).ready = s.ready ∧ (s.hostDone data).heldList = s.heldList ∧ (s.hostDone data).engine = s.engine ∧
    (s.hostDone data).arbiter = s.arbiter ∧ (s.hostDone data).link = s.link ∧ (s.hostDone data).time = s.time ∧
    (s.hostDone data).inhibit = s.inhibit ∧ (s.hostDone data).report = s.report ∧ (s.hostDone data).mgmt = s.mgmt ∧
    (s.hostDone data).pins = s.pins ∧ (s.hostDone data).pending = s.pending ∧ (s.hostDone data).clocks = s.clocks := by
  simp only [State.hostDone]; (repeat' split) <;> simp

@[simp] theorem State.hostFailed_keeps (s : State) (reason : RefusalReason) :
    (s.hostFailed reason).decoder = s.decoder ∧ (s.hostFailed reason).queue = s.queue ∧
    (s.hostFailed reason).groups = s.groups ∧ (s.hostFailed reason).ready = s.ready ∧
    (s.hostFailed reason).heldList = s.heldList ∧ (s.hostFailed reason).engine = s.engine ∧
    (s.hostFailed reason).arbiter = s.arbiter ∧ (s.hostFailed reason).link = s.link ∧
    (s.hostFailed reason).time = s.time ∧ (s.hostFailed reason).inhibit = s.inhibit ∧
    (s.hostFailed reason).report.mask = s.report.mask ∧ (s.hostFailed reason).report.completions = s.report.completions ∧
    (s.hostFailed reason).report.events = s.report.events ∧ (s.hostFailed reason).mgmt = s.mgmt ∧
    (s.hostFailed reason).pins = s.pins ∧ (s.hostFailed reason).pending = s.pending ∧
    (s.hostFailed reason).clocks = s.clocks := by
  simp only [State.hostFailed]; (repeat' split) <;> simp

@[simp] theorem State.endDrain_keeps (s : State) :
    (s.endDrain).decoder = s.decoder ∧ (s.endDrain).upstream = s.upstream ∧ (s.endDrain).queue = s.queue ∧
    (s.endDrain).groups = s.groups ∧ (s.endDrain).ready = s.ready ∧ (s.endDrain).heldList = s.heldList ∧
    (s.endDrain).engine.tally = s.engine.tally ∧ (s.endDrain).arbiter = s.arbiter ∧ (s.endDrain).link = s.link ∧
    (s.endDrain).time = s.time ∧ (s.endDrain).inhibit = s.inhibit ∧ (s.endDrain).report = s.report ∧
    (s.endDrain).mgmt = s.mgmt ∧ (s.endDrain).pins = s.pins ∧ (s.endDrain).pending = s.pending ∧
    (s.endDrain).clocks = s.clocks := by
  simp only [State.endDrain]; (repeat' split) <;> simp

@[simp] theorem State.missTrigger_keeps (s : State) (g : GroupId) (reason : MissedReason) :
    (s.missTrigger g reason).decoder = s.decoder ∧ (s.missTrigger g reason).upstream = s.upstream ∧
    (s.missTrigger g reason).queue = s.queue ∧ (s.missTrigger g reason).ready = s.ready ∧
    (s.missTrigger g reason).heldList = s.heldList ∧ (s.missTrigger g reason).engine = s.engine ∧
    (s.missTrigger g reason).arbiter = s.arbiter ∧ (s.missTrigger g reason).link = s.link ∧
    (s.missTrigger g reason).time = s.time ∧ (s.missTrigger g reason).inhibit = s.inhibit ∧
    (s.missTrigger g reason).report.mask = s.report.mask ∧
    (s.missTrigger g reason).report.completions = s.report.completions ∧
    (s.missTrigger g reason).report.events = s.report.events ∧
    (s.missTrigger g reason).report.refusal = s.report.refusal ∧ (s.missTrigger g reason).mgmt = s.mgmt ∧
    (s.missTrigger g reason).pins = s.pins ∧ (s.missTrigger g reason).pending = s.pending ∧
    (s.missTrigger g reason).clocks = s.clocks := by
  simp only [State.missTrigger]; simp

@[simp] theorem State.missTrigger_config (s : State) (g : GroupId) (reason : MissedReason) (h : GroupId) :
    (s.missTrigger g reason).groups[h.val].config = s.groups[h.val].config := by
  simp only [State.missTrigger]; simp

@[simp] theorem State.inhibitEngine_keeps (s : State) :
    (s.inhibitEngine).decoder = s.decoder ∧ (s.inhibitEngine).upstream = s.upstream ∧ (s.inhibitEngine).queue = s.queue ∧
    (s.inhibitEngine).ready = s.ready ∧ (s.inhibitEngine).engine.tally = s.engine.tally ∧
    (s.inhibitEngine).arbiter = s.arbiter ∧ (s.inhibitEngine).link = s.link ∧ (s.inhibitEngine).time = s.time ∧
    (s.inhibitEngine).inhibit = s.inhibit ∧ (s.inhibitEngine).report = s.report ∧ (s.inhibitEngine).mgmt = s.mgmt ∧
    (s.inhibitEngine).pins = s.pins ∧ (s.inhibitEngine).pending = s.pending ∧ (s.inhibitEngine).clocks = s.clocks := by
  simp only [State.inhibitEngine]; (repeat' split) <;> simp

@[simp] theorem State.inhibitEngine_config (s : State) (h : GroupId) :
    (s.inhibitEngine).groups[h.val].config = s.groups[h.val].config := by
  unfold State.inhibitEngine; (repeat' split) <;> simp

@[simp] theorem State.enterAll_keeps (l : List GroupId) (st : GroupState) (s : State) :
    (s.enterAll l st).decoder = s.decoder ∧ (s.enterAll l st).upstream = s.upstream ∧ (s.enterAll l st).queue = s.queue ∧
    (s.enterAll l st).ready = s.ready ∧ (s.enterAll l st).heldList = s.heldList ∧ (s.enterAll l st).engine = s.engine ∧
    (s.enterAll l st).arbiter = s.arbiter ∧ (s.enterAll l st).link = s.link ∧ (s.enterAll l st).time = s.time ∧
    (s.enterAll l st).inhibit = s.inhibit ∧ (s.enterAll l st).report = s.report ∧ (s.enterAll l st).mgmt = s.mgmt ∧
    (s.enterAll l st).pins = s.pins ∧ (s.enterAll l st).pending = s.pending ∧ (s.enterAll l st).clocks = s.clocks := by
  refine ⟨?_, ?_, ?_, ?_, ?_, ?_, ?_, ?_, ?_, ?_, ?_, ?_, ?_, ?_, ?_⟩
  · exact foldl_keeps (fun s : State => s.decoder) (fun s g => s.updGroup g (Group.enter st)) (fun s g => by simp) l s
  · exact foldl_keeps (fun s : State => s.upstream) (fun s g => s.updGroup g (Group.enter st)) (fun s g => by simp) l s
  · exact foldl_keeps (fun s : State => s.queue) (fun s g => s.updGroup g (Group.enter st)) (fun s g => by simp) l s
  · exact foldl_keeps (fun s : State => s.ready) (fun s g => s.updGroup g (Group.enter st)) (fun s g => by simp) l s
  · exact foldl_keeps (fun s : State => s.heldList) (fun s g => s.updGroup g (Group.enter st)) (fun s g => by simp) l s
  · exact foldl_keeps (fun s : State => s.engine) (fun s g => s.updGroup g (Group.enter st)) (fun s g => by simp) l s
  · exact foldl_keeps (fun s : State => s.arbiter) (fun s g => s.updGroup g (Group.enter st)) (fun s g => by simp) l s
  · exact foldl_keeps (fun s : State => s.link) (fun s g => s.updGroup g (Group.enter st)) (fun s g => by simp) l s
  · exact foldl_keeps (fun s : State => s.time) (fun s g => s.updGroup g (Group.enter st)) (fun s g => by simp) l s
  · exact foldl_keeps (fun s : State => s.inhibit) (fun s g => s.updGroup g (Group.enter st)) (fun s g => by simp) l s
  · exact foldl_keeps (fun s : State => s.report) (fun s g => s.updGroup g (Group.enter st)) (fun s g => by simp) l s
  · exact foldl_keeps (fun s : State => s.mgmt) (fun s g => s.updGroup g (Group.enter st)) (fun s g => by simp) l s
  · exact foldl_keeps (fun s : State => s.pins) (fun s g => s.updGroup g (Group.enter st)) (fun s g => by simp) l s
  · exact foldl_keeps (fun s : State => s.pending) (fun s g => s.updGroup g (Group.enter st)) (fun s g => by simp) l s
  · exact foldl_keeps (fun s : State => s.clocks) (fun s g => s.updGroup g (Group.enter st)) (fun s g => by simp) l s

@[simp] theorem State.enterAll_config (l : List GroupId) (st : GroupState) (s : State) (h : GroupId) :
    (s.enterAll l st).groups[h.val].config = s.groups[h.val].config := by
  exact foldl_keeps (fun s : State => s.groups[h.val].config) (fun s g => s.updGroup g (Group.enter st)) (fun s g => by simp) l s

@[simp] theorem State.timeLinkUp_keeps (s : State) :
    (s.timeLinkUp).decoder = s.decoder ∧ (s.timeLinkUp).upstream = s.upstream ∧ (s.timeLinkUp).queue = s.queue ∧
    (s.timeLinkUp).groups = s.groups ∧ (s.timeLinkUp).ready = s.ready ∧ (s.timeLinkUp).heldList = s.heldList ∧
    (s.timeLinkUp).engine = s.engine ∧ (s.timeLinkUp).arbiter = s.arbiter ∧ (s.timeLinkUp).link = s.link ∧
    (s.timeLinkUp).time.source = s.time.source ∧ (s.timeLinkUp).time.tickFrom = s.time.tickFrom ∧
    (s.timeLinkUp).time.counter = s.time.counter ∧ (s.timeLinkUp).time.generation = s.time.generation ∧
    (s.timeLinkUp).time.lastEpoch = s.time.lastEpoch ∧ (s.timeLinkUp).inhibit = s.inhibit ∧
    (s.timeLinkUp).report = s.report ∧ (s.timeLinkUp).mgmt = s.mgmt ∧ (s.timeLinkUp).pins = s.pins ∧
    (s.timeLinkUp).pending = s.pending ∧ (s.timeLinkUp).clocks = s.clocks := by
  simp only [State.timeLinkUp]; (repeat' split) <;> simp

@[simp] theorem State.timeLinkLost_keeps (s : State) :
    (s.timeLinkLost).decoder = s.decoder ∧ (s.timeLinkLost).upstream = s.upstream ∧ (s.timeLinkLost).queue = s.queue ∧
    (s.timeLinkLost).groups = s.groups ∧ (s.timeLinkLost).ready = s.ready ∧ (s.timeLinkLost).heldList = s.heldList ∧
    (s.timeLinkLost).engine = s.engine ∧ (s.timeLinkLost).arbiter = s.arbiter ∧ (s.timeLinkLost).link = s.link ∧
    (s.timeLinkLost).time.source = s.time.source ∧ (s.timeLinkLost).time.tickFrom = s.time.tickFrom ∧
    (s.timeLinkLost).time.counter = s.time.counter ∧ (s.timeLinkLost).time.generation = s.time.generation ∧
    (s.timeLinkLost).time.lastEpoch = s.time.lastEpoch ∧ (s.timeLinkLost).inhibit = s.inhibit ∧
    (s.timeLinkLost).report.mask = s.report.mask ∧ (s.timeLinkLost).report.completions = s.report.completions ∧
    (s.timeLinkLost).report.events = s.report.events ∧ (s.timeLinkLost).report.refusal = s.report.refusal ∧
    (s.timeLinkLost).mgmt = s.mgmt ∧ (s.timeLinkLost).pins = s.pins ∧ (s.timeLinkLost).pending = s.pending ∧
    (s.timeLinkLost).clocks = s.clocks := by
  simp only [State.timeLinkLost]; (repeat' split) <;> simp

@[simp] theorem State.setTickSource_keeps (s : State) (v : TickSource) :
    (s.setTickSource v).decoder = s.decoder ∧ (s.setTickSource v).upstream = s.upstream ∧
    (s.setTickSource v).queue = s.queue ∧ (s.setTickSource v).groups = s.groups ∧ (s.setTickSource v).ready = s.ready ∧
    (s.setTickSource v).heldList = s.heldList ∧ (s.setTickSource v).engine = s.engine ∧
    (s.setTickSource v).arbiter = s.arbiter ∧ (s.setTickSource v).link = s.link ∧
    (s.setTickSource v).time.tickFrom = s.time.tickFrom ∧ (s.setTickSource v).time.counter = s.time.counter ∧
    (s.setTickSource v).time.generation = s.time.generation ∧ (s.setTickSource v).time.lastEpoch = s.time.lastEpoch ∧
    (s.setTickSource v).inhibit = s.inhibit ∧ (s.setTickSource v).report.mask = s.report.mask ∧
    (s.setTickSource v).report.completions = s.report.completions ∧ (s.setTickSource v).report.events = s.report.events ∧
    (s.setTickSource v).report.refusal = s.report.refusal ∧ (s.setTickSource v).mgmt = s.mgmt ∧
    (s.setTickSource v).pins = s.pins ∧ (s.setTickSource v).pending = s.pending ∧ (s.setTickSource v).clocks = s.clocks := by
  simp only [State.setTickSource]; (repeat' split) <;> simp

@[simp] theorem State.completeTake_keeps (s : State) :
    (s.completeTake).decoder = s.decoder ∧ (s.completeTake).upstream = s.upstream ∧ (s.completeTake).queue = s.queue ∧
    (s.completeTake).groups = s.groups ∧ (s.completeTake).ready = s.ready ∧ (s.completeTake).heldList = s.heldList ∧
    (s.completeTake).engine = s.engine ∧ (s.completeTake).arbiter = s.arbiter ∧ (s.completeTake).link = s.link ∧
    (s.completeTake).time = s.time ∧ (s.completeTake).inhibit = s.inhibit ∧ (s.completeTake).mgmt = s.mgmt ∧
    (s.completeTake).pins = s.pins ∧ (s.completeTake).pending = s.pending ∧ (s.completeTake).clocks = s.clocks := by
  simp only [State.completeTake]; (repeat' split) <;> simp

@[simp] theorem State.retryUpstream_keeps (s : State) :
    (s.retryUpstream).decoder = s.decoder ∧ (s.retryUpstream).queue = s.queue ∧ (s.retryUpstream).groups = s.groups ∧
    (s.retryUpstream).ready = s.ready ∧ (s.retryUpstream).heldList = s.heldList ∧ (s.retryUpstream).engine = s.engine ∧
    (s.retryUpstream).arbiter = s.arbiter ∧ (s.retryUpstream).link = s.link ∧ (s.retryUpstream).time = s.time ∧
    (s.retryUpstream).inhibit = s.inhibit ∧ (s.retryUpstream).report = s.report ∧ (s.retryUpstream).mgmt = s.mgmt ∧
    (s.retryUpstream).pins = s.pins ∧ (s.retryUpstream).pending = s.pending ∧ (s.retryUpstream).clocks = s.clocks := by
  simp only [State.retryUpstream]; (repeat' split) <;> simp

@[simp] theorem State.sequenceTest_keeps (s : State) (q : BitVec 3) :
    (s.sequenceTest q).decoder = s.decoder ∧ (s.sequenceTest q).upstream = s.upstream ∧
    (s.sequenceTest q).queue = s.queue ∧ (s.sequenceTest q).groups = s.groups ∧ (s.sequenceTest q).ready = s.ready ∧
    (s.sequenceTest q).heldList = s.heldList ∧ (s.sequenceTest q).engine = s.engine ∧
    (s.sequenceTest q).arbiter = s.arbiter ∧ (s.sequenceTest q).link.state = s.link.state ∧
    (s.sequenceTest q).link.carrier = s.link.carrier ∧ (s.sequenceTest q).link.carrierTimer = s.link.carrierTimer ∧
    (s.sequenceTest q).link.inFrame = s.link.inFrame ∧ (s.sequenceTest q).link.acquired = s.link.acquired ∧
    (s.sequenceTest q).link.history = s.link.history ∧ (s.sequenceTest q).link.lastError = s.link.lastError ∧
    (s.sequenceTest q).link.station = s.link.station ∧ (s.sequenceTest q).link.localChannel = s.link.localChannel ∧
    (s.sequenceTest q).link.localProfile = s.link.localProfile ∧ (s.sequenceTest q).time = s.time ∧
    (s.sequenceTest q).inhibit = s.inhibit ∧ (s.sequenceTest q).report.mask = s.report.mask ∧
    (s.sequenceTest q).report.completions = s.report.completions ∧ (s.sequenceTest q).report.events = s.report.events ∧
    (s.sequenceTest q).report.refusal = s.report.refusal ∧ (s.sequenceTest q).mgmt = s.mgmt ∧
    (s.sequenceTest q).pins = s.pins ∧ (s.sequenceTest q).pending = s.pending ∧ (s.sequenceTest q).clocks = s.clocks := by
  simp only [State.sequenceTest]; (repeat' split) <;> simp

@[simp] theorem State.seeTransition_keeps (s : State) :
    (s.seeTransition).decoder = s.decoder ∧ (s.seeTransition).upstream = s.upstream ∧ (s.seeTransition).queue = s.queue ∧
    (s.seeTransition).groups = s.groups ∧ (s.seeTransition).ready = s.ready ∧ (s.seeTransition).heldList = s.heldList ∧
    (s.seeTransition).engine = s.engine ∧ (s.seeTransition).arbiter = s.arbiter ∧
    (s.seeTransition).link.inFrame = s.link.inFrame ∧ (s.seeTransition).link.lastError = s.link.lastError ∧
    (s.seeTransition).link.station = s.link.station ∧ (s.seeTransition).link.localChannel = s.link.localChannel ∧
    (s.seeTransition).link.localProfile = s.link.localProfile ∧ (s.seeTransition).time = s.time ∧
    (s.seeTransition).inhibit = s.inhibit ∧ (s.seeTransition).report.mask = s.report.mask ∧
    (s.seeTransition).report.completions = s.report.completions ∧ (s.seeTransition).report.events = s.report.events ∧
    (s.seeTransition).report.refusal = s.report.refusal ∧ (s.seeTransition).mgmt = s.mgmt ∧
    (s.seeTransition).pins = s.pins ∧ (s.seeTransition).pending = s.pending ∧ (s.seeTransition).clocks = s.clocks := by
  simp only [State.seeTransition]; (repeat' split) <;> simp

@[simp] theorem State.refuseHeld_keeps (s : State) (g : GroupId) :
    (s.refuseHeld g).decoder = s.decoder ∧ (s.refuseHeld g).upstream.host = s.upstream.host ∧
    (s.refuseHeld g).queue.entries = s.queue.entries ∧ (s.refuseHeld g).queue.arrival = s.queue.arrival ∧
    (s.refuseHeld g).queue.holdLimit = s.queue.holdLimit ∧ (s.refuseHeld g).groups = s.groups ∧
    (s.refuseHeld g).ready = s.ready ∧ (s.refuseHeld g).heldList = s.heldList ∧ (s.refuseHeld g).engine = s.engine ∧
    (s.refuseHeld g).arbiter = s.arbiter ∧ (s.refuseHeld g).link = s.link ∧ (s.refuseHeld g).time = s.time ∧
    (s.refuseHeld g).inhibit = s.inhibit ∧ (s.refuseHeld g).report.mask = s.report.mask ∧
    (s.refuseHeld g).report.completions = s.report.completions ∧ (s.refuseHeld g).report.events = s.report.events ∧
    (s.refuseHeld g).mgmt = s.mgmt ∧ (s.refuseHeld g).pins = s.pins ∧ (s.refuseHeld g).pending = s.pending ∧
    (s.refuseHeld g).clocks = s.clocks := by
  simp only [State.refuseHeld]; (repeat' split) <;> simp

@[simp] theorem State.armNamed_keeps (s : State) (groupSet : Byte) (g : GroupId) :
    (State.armNamed groupSet s g).decoder = s.decoder ∧ (State.armNamed groupSet s g).upstream = s.upstream ∧
    (State.armNamed groupSet s g).queue = s.queue ∧ (State.armNamed groupSet s g).ready = s.ready ∧
    (State.armNamed groupSet s g).heldList = s.heldList ∧ (State.armNamed groupSet s g).engine = s.engine ∧
    (State.armNamed groupSet s g).arbiter = s.arbiter ∧ (State.armNamed groupSet s g).link = s.link ∧
    (State.armNamed groupSet s g).time = s.time ∧ (State.armNamed groupSet s g).inhibit = s.inhibit ∧
    (State.armNamed groupSet s g).report = s.report ∧ (State.armNamed groupSet s g).mgmt = s.mgmt ∧
    (State.armNamed groupSet s g).pins = s.pins ∧ (State.armNamed groupSet s g).pending = s.pending ∧
    (State.armNamed groupSet s g).clocks = s.clocks := by
  simp only [State.armNamed]; (repeat' split) <;> simp

@[simp] theorem State.armNamed_config (s : State) (groupSet : Byte) (g : GroupId) (h : GroupId) :
    (State.armNamed groupSet s g).groups[h.val].config = s.groups[h.val].config := by
  simp only [State.armNamed]; (repeat' split) <;> simp

@[simp] theorem State.takeHoldExpiry_keeps (s : State) :
    (s.takeHoldExpiry).decoder = s.decoder ∧ (s.takeHoldExpiry).upstream.host = s.upstream.host ∧
    (s.takeHoldExpiry).queue.entries = s.queue.entries ∧ (s.takeHoldExpiry).queue.arrival = s.queue.arrival ∧
    (s.takeHoldExpiry).queue.holdLimit = s.queue.holdLimit ∧ (s.takeHoldExpiry).groups = s.groups ∧
    (s.takeHoldExpiry).ready = s.ready ∧ (s.takeHoldExpiry).heldList = s.heldList ∧ (s.takeHoldExpiry).engine = s.engine ∧
    (s.takeHoldExpiry).arbiter = s.arbiter ∧ (s.takeHoldExpiry).link = s.link ∧ (s.takeHoldExpiry).time = s.time ∧
    (s.takeHoldExpiry).inhibit = s.inhibit ∧ (s.takeHoldExpiry).report.mask = s.report.mask ∧
    (s.takeHoldExpiry).report.completions = s.report.completions ∧ (s.takeHoldExpiry).report.events = s.report.events ∧
    (s.takeHoldExpiry).report.refusal = s.report.refusal ∧ (s.takeHoldExpiry).mgmt = s.mgmt ∧
    (s.takeHoldExpiry).pins = s.pins ∧ (s.takeHoldExpiry).pending = s.pending ∧ (s.takeHoldExpiry).clocks = s.clocks := by
  simp only [State.takeHoldExpiry]; (repeat' split) <;> simp

@[simp] theorem State.takeLate_keeps (s : State) (g : GroupId) :
    (s.takeLate g).decoder = s.decoder ∧ (s.takeLate g).upstream = s.upstream ∧ (s.takeLate g).queue = s.queue ∧
    (s.takeLate g).ready = s.ready ∧ (s.takeLate g).heldList = s.heldList ∧ (s.takeLate g).engine = s.engine ∧
    (s.takeLate g).arbiter = s.arbiter ∧ (s.takeLate g).link = s.link ∧ (s.takeLate g).time = s.time ∧
    (s.takeLate g).inhibit = s.inhibit ∧ (s.takeLate g).report = s.report ∧ (s.takeLate g).mgmt = s.mgmt ∧
    (s.takeLate g).pins = s.pins ∧ (s.takeLate g).pending = s.pending ∧ (s.takeLate g).clocks = s.clocks := by
  simp only [State.takeLate]; (repeat' split) <;> simp

@[simp] theorem State.takeLate_config (s : State) (g : GroupId) (h : GroupId) :
    (s.takeLate g).groups[h.val].config = s.groups[h.val].config := by
  simp only [State.takeLate]; (repeat' split) <;> simp

@[simp] theorem State.stageWrite_keeps (s : State) (w : StagedWrite) :
    (s.stageWrite w).decoder = s.decoder ∧ (s.stageWrite w).upstream.host = s.upstream.host ∧
    (s.stageWrite w).queue.holdLimit = s.queue.holdLimit ∧ (s.stageWrite w).groups = s.groups ∧
    (s.stageWrite w).ready = s.ready ∧ (s.stageWrite w).heldList = s.heldList ∧ (s.stageWrite w).engine = s.engine ∧
    (s.stageWrite w).arbiter = s.arbiter ∧ (s.stageWrite w).link = s.link ∧ (s.stageWrite w).time = s.time ∧
    (s.stageWrite w).inhibit = s.inhibit ∧ (s.stageWrite w).report.mask = s.report.mask ∧
    (s.stageWrite w).report.completions = s.report.completions ∧ (s.stageWrite w).report.events = s.report.events ∧
    (s.stageWrite w).report.refusal = s.report.refusal ∧ (s.stageWrite w).mgmt = s.mgmt ∧ (s.stageWrite w).pins = s.pins ∧
    (s.stageWrite w).pending = s.pending ∧ (s.stageWrite w).clocks = s.clocks := by
  simp only [State.stageWrite]; (repeat' split) <;> simp

@[simp] theorem State.removeEntries_keeps (s : State) (p : Entry → Bool) :
    (s.removeEntries p).decoder = s.decoder ∧ (s.removeEntries p).upstream.host = s.upstream.host ∧
    (s.removeEntries p).queue.holdLimit = s.queue.holdLimit ∧ (s.removeEntries p).groups = s.groups ∧
    (s.removeEntries p).ready = s.ready ∧ (s.removeEntries p).heldList = s.heldList ∧
    (s.removeEntries p).engine = s.engine ∧ (s.removeEntries p).arbiter = s.arbiter ∧ (s.removeEntries p).link = s.link ∧
    (s.removeEntries p).time = s.time ∧ (s.removeEntries p).inhibit = s.inhibit ∧ (s.removeEntries p).report = s.report ∧
    (s.removeEntries p).mgmt = s.mgmt ∧ (s.removeEntries p).pins = s.pins ∧ (s.removeEntries p).pending = s.pending ∧
    (s.removeEntries p).clocks = s.clocks := by
  simp only [State.removeEntries]; simp

@[simp] theorem State.removeOldest_keeps (s : State) (g : GroupId) :
    (s.removeOldest g).decoder = s.decoder ∧ (s.removeOldest g).upstream.host = s.upstream.host ∧
    (s.removeOldest g).queue.holdLimit = s.queue.holdLimit ∧ (s.removeOldest g).groups = s.groups ∧
    (s.removeOldest g).ready = s.ready ∧ (s.removeOldest g).heldList = s.heldList ∧ (s.removeOldest g).engine = s.engine ∧
    (s.removeOldest g).arbiter = s.arbiter ∧ (s.removeOldest g).link = s.link ∧ (s.removeOldest g).time = s.time ∧
    (s.removeOldest g).inhibit = s.inhibit ∧ (s.removeOldest g).report = s.report ∧ (s.removeOldest g).mgmt = s.mgmt ∧
    (s.removeOldest g).pins = s.pins ∧ (s.removeOldest g).pending = s.pending ∧ (s.removeOldest g).clocks = s.clocks := by
  simp only [State.removeOldest]; simp

@[simp] theorem State.arbitrate_keeps (s : State) :
    (s.arbitrate).decoder = s.decoder ∧ (s.arbitrate).upstream.response = s.upstream.response ∧
    (s.arbitrate).queue = s.queue ∧ (s.arbitrate).groups = s.groups ∧ (s.arbitrate).ready = s.ready ∧
    (s.arbitrate).heldList = s.heldList ∧ (s.arbitrate).engine.tally = s.engine.tally ∧
    (s.arbitrate).arbiter.burstLimit = s.arbiter.burstLimit ∧ (s.arbitrate).arbiter.dTimeout = s.arbiter.dTimeout ∧
    (s.arbitrate).link = s.link ∧ (s.arbitrate).time = s.time ∧ (s.arbitrate).inhibit = s.inhibit ∧
    (s.arbitrate).report = s.report ∧ (s.arbitrate).mgmt = s.mgmt ∧ (s.arbitrate).pins = s.pins ∧
    (s.arbitrate).pending = s.pending ∧ (s.arbitrate).clocks = s.clocks := by
  simp only [State.arbitrate]; (repeat' split) <;> simp

@[simp] theorem State.endBatch_keeps (s : State) (g : GroupId) (outcome : BatchOutcome) :
    (s.endBatch g outcome).decoder = s.decoder ∧ (s.endBatch g outcome).upstream.host = s.upstream.host ∧
    (s.endBatch g outcome).queue.holdLimit = s.queue.holdLimit ∧ (s.endBatch g outcome).engine.phase = s.engine.phase ∧
    (s.endBatch g outcome).arbiter = s.arbiter ∧ (s.endBatch g outcome).link = s.link ∧
    (s.endBatch g outcome).time = s.time ∧ (s.endBatch g outcome).inhibit = s.inhibit ∧
    (s.endBatch g outcome).report.mask = s.report.mask ∧ (s.endBatch g outcome).report.events = s.report.events ∧
    (s.endBatch g outcome).report.refusal = s.report.refusal ∧ (s.endBatch g outcome).mgmt = s.mgmt ∧
    (s.endBatch g outcome).pins = s.pins ∧ (s.endBatch g outcome).pending = s.pending ∧
    (s.endBatch g outcome).clocks = s.clocks := by
  simp only [State.endBatch]; simp

@[simp] theorem State.endBatch_config (s : State) (g : GroupId) (outcome : BatchOutcome) (h : GroupId) :
    (s.endBatch g outcome).groups[h.val].config = s.groups[h.val].config := by
  simp only [State.endBatch]; simp

@[simp] theorem State.inhibitSet_keeps (s : State) :
    (s.inhibitSet).decoder = s.decoder ∧ (s.inhibitSet).upstream = s.upstream ∧ (s.inhibitSet).queue = s.queue ∧
    (s.inhibitSet).engine.tally = s.engine.tally ∧ (s.inhibitSet).arbiter = s.arbiter ∧ (s.inhibitSet).link = s.link ∧
    (s.inhibitSet).time = s.time ∧ (s.inhibitSet).inhibit = s.inhibit ∧ (s.inhibitSet).report = s.report ∧
    (s.inhibitSet).mgmt = s.mgmt ∧ (s.inhibitSet).pins = s.pins ∧ (s.inhibitSet).pending = s.pending ∧
    (s.inhibitSet).clocks = s.clocks := by
  simp only [State.inhibitSet]; simp

@[simp] theorem State.inhibitSet_config (s : State) (h : GroupId) :
    (s.inhibitSet).groups[h.val].config = s.groups[h.val].config := by
  simp only [State.inhibitSet]; simp

@[simp] theorem State.endEmpty_keeps (s : State) (g : GroupId) (t : Trigger) :
    (s.endEmpty g t).decoder = s.decoder ∧ (s.endEmpty g t).upstream = s.upstream ∧ (s.endEmpty g t).queue = s.queue ∧
    (s.endEmpty g t).ready = s.ready ∧ (s.endEmpty g t).heldList = s.heldList ∧ (s.endEmpty g t).engine = s.engine ∧
    (s.endEmpty g t).arbiter = s.arbiter ∧ (s.endEmpty g t).link = s.link ∧ (s.endEmpty g t).time = s.time ∧
    (s.endEmpty g t).inhibit = s.inhibit ∧ (s.endEmpty g t).report.mask = s.report.mask ∧
    (s.endEmpty g t).report.events = s.report.events ∧ (s.endEmpty g t).report.refusal = s.report.refusal ∧
    (s.endEmpty g t).mgmt = s.mgmt ∧ (s.endEmpty g t).pins = s.pins ∧ (s.endEmpty g t).pending = s.pending ∧
    (s.endEmpty g t).clocks = s.clocks := by
  simp only [State.endEmpty]; simp

@[simp] theorem State.endEmpty_config (s : State) (g : GroupId) (t : Trigger) (h : GroupId) :
    (s.endEmpty g t).groups[h.val].config = s.groups[h.val].config := by
  simp only [State.endEmpty]; simp

@[simp] theorem State.leaveCollecting_keeps (s : State) (g : GroupId) :
    (s.leaveCollecting g).decoder = s.decoder ∧ (s.leaveCollecting g).upstream = s.upstream ∧
    (s.leaveCollecting g).queue = s.queue ∧ (s.leaveCollecting g).engine = s.engine ∧
    (s.leaveCollecting g).arbiter = s.arbiter ∧ (s.leaveCollecting g).link = s.link ∧
    (s.leaveCollecting g).time = s.time ∧ (s.leaveCollecting g).inhibit = s.inhibit ∧
    (s.leaveCollecting g).report = s.report ∧ (s.leaveCollecting g).mgmt = s.mgmt ∧ (s.leaveCollecting g).pins = s.pins ∧
    (s.leaveCollecting g).pending = s.pending ∧ (s.leaveCollecting g).clocks = s.clocks := by
  simp only [State.leaveCollecting]; (repeat' split) <;> simp

@[simp] theorem State.leaveCollecting_config (s : State) (g : GroupId) (h : GroupId) :
    (s.leaveCollecting g).groups[h.val].config = s.groups[h.val].config := by
  simp only [State.leaveCollecting]; (repeat' split) <;> simp

@[simp] theorem State.configureGroup_keeps (s : State) (g : GroupId) (c : GroupConfig) :
    (s.configureGroup g c).decoder = s.decoder ∧ (s.configureGroup g c).upstream.host = s.upstream.host ∧
    (s.configureGroup g c).queue.holdLimit = s.queue.holdLimit ∧ (s.configureGroup g c).ready = s.ready ∧
    (s.configureGroup g c).heldList = s.heldList ∧ (s.configureGroup g c).engine = s.engine ∧
    (s.configureGroup g c).arbiter = s.arbiter ∧ (s.configureGroup g c).link = s.link ∧
    (s.configureGroup g c).time = s.time ∧ (s.configureGroup g c).inhibit = s.inhibit ∧
    (s.configureGroup g c).report = s.report ∧ (s.configureGroup g c).mgmt = s.mgmt ∧
    (s.configureGroup g c).pins = s.pins ∧ (s.configureGroup g c).pending = s.pending ∧
    (s.configureGroup g c).clocks = s.clocks := by
  simp only [State.configureGroup]; (repeat' split) <;> simp

@[simp] theorem State.resetDatapath_keeps (s : State) :
    (s.resetDatapath).decoder = s.decoder ∧ (s.resetDatapath).queue.arrival = s.queue.arrival ∧
    (s.resetDatapath).queue.holdLimit = s.queue.holdLimit ∧ (s.resetDatapath).arbiter.burstLimit = s.arbiter.burstLimit ∧
    (s.resetDatapath).arbiter.dTimeout = s.arbiter.dTimeout ∧ (s.resetDatapath).link = s.link ∧
    (s.resetDatapath).time = s.time ∧ (s.resetDatapath).inhibit = s.inhibit ∧ (s.resetDatapath).report = s.report ∧
    (s.resetDatapath).mgmt = s.mgmt ∧ (s.resetDatapath).pins = s.pins ∧ (s.resetDatapath).pending = s.pending ∧
    (s.resetDatapath).clocks = s.clocks := by
  simp only [State.resetDatapath]; simp

@[simp] theorem State.resetDatapath_config (s : State) (h : GroupId) :
    (s.resetDatapath).groups[h.val].config = s.groups[h.val].config := by
  simp only [State.resetDatapath]; simp

@[simp] theorem State.resetAll_keeps (s : State) :
    (s.resetAll).pins = s.pins ∧ (s.resetAll).pending = s.pending ∧ (s.resetAll).clocks = s.clocks := by
  simp only [State.resetAll]; simp

@[simp] theorem State.work_keeps (s : State) :
    (s.work).decoder = s.decoder ∧ (s.work).upstream.response = s.upstream.response ∧ (s.work).queue = s.queue ∧
    (s.work).heldList = s.heldList ∧ (s.work).engine.tally = s.engine.tally ∧
    (s.work).arbiter.burstLimit = s.arbiter.burstLimit ∧ (s.work).arbiter.dTimeout = s.arbiter.dTimeout ∧
    (s.work).link = s.link ∧ (s.work).time = s.time ∧ (s.work).inhibit = s.inhibit ∧ (s.work).report = s.report ∧
    (s.work).mgmt = s.mgmt ∧ (s.work).pins = s.pins ∧ (s.work).pending = s.pending ∧ (s.work).clocks = s.clocks := by
  simp only [State.work]; simp

@[simp] theorem State.work_config (s : State) (h : GroupId) :
    (s.work).groups[h.val].config = s.groups[h.val].config := by
  simp only [State.work]; simp

@[simp] theorem State.requestHost_keeps (s : State) (c : UCycle) (w : Option WindowId) (r : Route) :
    (s.requestHost c w r).decoder = s.decoder ∧ (s.requestHost c w r).upstream.response = s.upstream.response ∧
    (s.requestHost c w r).queue = s.queue ∧ (s.requestHost c w r).groups = s.groups ∧
    (s.requestHost c w r).ready = s.ready ∧ (s.requestHost c w r).heldList = s.heldList ∧
    (s.requestHost c w r).engine.tally = s.engine.tally ∧
    (s.requestHost c w r).arbiter.burstLimit = s.arbiter.burstLimit ∧
    (s.requestHost c w r).arbiter.dTimeout = s.arbiter.dTimeout ∧ (s.requestHost c w r).link = s.link ∧
    (s.requestHost c w r).time = s.time ∧ (s.requestHost c w r).inhibit = s.inhibit ∧
    (s.requestHost c w r).report = s.report ∧ (s.requestHost c w r).mgmt = s.mgmt ∧ (s.requestHost c w r).pins = s.pins ∧
    (s.requestHost c w r).pending = s.pending ∧ (s.requestHost c w r).clocks = s.clocks := by
  simp only [State.requestHost]; simp

@[simp] theorem State.passEntry_keeps (s : State) (g : GroupId) :
    (s.passEntry g).decoder = s.decoder ∧ (s.passEntry g).upstream.host = s.upstream.host ∧
    (s.passEntry g).queue.holdLimit = s.queue.holdLimit ∧ (s.passEntry g).ready = s.ready ∧
    (s.passEntry g).heldList = s.heldList ∧ (s.passEntry g).engine = s.engine ∧ (s.passEntry g).arbiter = s.arbiter ∧
    (s.passEntry g).link = s.link ∧ (s.passEntry g).time = s.time ∧ (s.passEntry g).inhibit = s.inhibit ∧
    (s.passEntry g).report = s.report ∧ (s.passEntry g).mgmt = s.mgmt ∧ (s.passEntry g).pins = s.pins ∧
    (s.passEntry g).pending = s.pending ∧ (s.passEntry g).clocks = s.clocks := by
  simp only [State.passEntry]; (repeat' split) <;> simp

@[simp] theorem State.passEntry_config (s : State) (g : GroupId) (h : GroupId) :
    (s.passEntry g).groups[h.val].config = s.groups[h.val].config := by
  unfold State.passEntry; (repeat' split) <;> simp

@[simp] theorem State.continueBatch_keeps (s : State) (g : GroupId) :
    (s.continueBatch g).decoder = s.decoder ∧ (s.continueBatch g).upstream = s.upstream ∧
    (s.continueBatch g).queue = s.queue ∧ (s.continueBatch g).engine = s.engine ∧
    (s.continueBatch g).arbiter = s.arbiter ∧ (s.continueBatch g).link = s.link ∧ (s.continueBatch g).time = s.time ∧
    (s.continueBatch g).inhibit = s.inhibit ∧ (s.continueBatch g).report.mask = s.report.mask ∧
    (s.continueBatch g).report.completions = s.report.completions ∧ (s.continueBatch g).report.events = s.report.events ∧
    (s.continueBatch g).report.refusal = s.report.refusal ∧ (s.continueBatch g).mgmt = s.mgmt ∧
    (s.continueBatch g).pins = s.pins ∧ (s.continueBatch g).pending = s.pending ∧ (s.continueBatch g).clocks = s.clocks := by
  simp only [State.continueBatch]; (repeat' split) <;> simp

@[simp] theorem State.continueBatch_config (s : State) (g : GroupId) (h : GroupId) :
    (s.continueBatch g).groups[h.val].config = s.groups[h.val].config := by
  simp only [State.continueBatch]; (repeat' split) <;> simp

@[simp] theorem State.cutGroup_keeps (s : State) (g : GroupId) (t : Trigger) :
    (s.cutGroup g t).decoder = s.decoder ∧ (s.cutGroup g t).upstream = s.upstream ∧
    (s.cutGroup g t).queue.arrival = s.queue.arrival ∧ (s.cutGroup g t).queue.held = s.queue.held ∧
    (s.cutGroup g t).queue.holdTimer = s.queue.holdTimer ∧ (s.cutGroup g t).queue.holdLimit = s.queue.holdLimit ∧
    (s.cutGroup g t).engine = s.engine ∧ (s.cutGroup g t).arbiter = s.arbiter ∧ (s.cutGroup g t).link = s.link ∧
    (s.cutGroup g t).time = s.time ∧ (s.cutGroup g t).inhibit = s.inhibit ∧ (s.cutGroup g t).report.mask = s.report.mask ∧
    (s.cutGroup g t).report.events = s.report.events ∧ (s.cutGroup g t).report.refusal = s.report.refusal ∧
    (s.cutGroup g t).mgmt = s.mgmt ∧ (s.cutGroup g t).pins = s.pins ∧ (s.cutGroup g t).pending = s.pending ∧
    (s.cutGroup g t).clocks = s.clocks := by
  simp only [State.cutGroup]; (repeat' split) <;> simp

@[simp] theorem State.cutGroup_config (s : State) (g : GroupId) (t : Trigger) (h : GroupId) :
    (s.cutGroup g t).groups[h.val].config = s.groups[h.val].config := by
  simp only [State.cutGroup]; (repeat' split) <;> simp

@[simp] theorem State.stopAtEngine_keeps (s : State) (g : GroupId) :
    (s.stopAtEngine g).decoder = s.decoder ∧ (s.stopAtEngine g).upstream.host = s.upstream.host ∧
    (s.stopAtEngine g).queue.holdLimit = s.queue.holdLimit ∧ (s.stopAtEngine g).arbiter = s.arbiter ∧
    (s.stopAtEngine g).link = s.link ∧ (s.stopAtEngine g).time = s.time ∧ (s.stopAtEngine g).inhibit = s.inhibit ∧
    (s.stopAtEngine g).report.mask = s.report.mask ∧ (s.stopAtEngine g).report.events = s.report.events ∧
    (s.stopAtEngine g).report.refusal = s.report.refusal ∧ (s.stopAtEngine g).mgmt = s.mgmt ∧
    (s.stopAtEngine g).pins = s.pins ∧ (s.stopAtEngine g).pending = s.pending ∧ (s.stopAtEngine g).clocks = s.clocks := by
  simp only [State.stopAtEngine]; (repeat' split) <;> simp

@[simp] theorem State.stopAtEngine_config (s : State) (g : GroupId) (h : GroupId) :
    (s.stopAtEngine g).groups[h.val].config = s.groups[h.val].config := by
  unfold State.stopAtEngine; (repeat' split) <;> simp

@[simp] theorem State.endRepetition_keeps (s : State) (g : GroupId) :
    (s.endRepetition g).decoder = s.decoder ∧ (s.endRepetition g).upstream.host = s.upstream.host ∧
    (s.endRepetition g).queue.holdLimit = s.queue.holdLimit ∧ (s.endRepetition g).engine.phase = s.engine.phase ∧
    (s.endRepetition g).arbiter = s.arbiter ∧ (s.endRepetition g).link = s.link ∧ (s.endRepetition g).time = s.time ∧
    (s.endRepetition g).inhibit = s.inhibit ∧ (s.endRepetition g).report.mask = s.report.mask ∧
    (s.endRepetition g).report.events = s.report.events ∧ (s.endRepetition g).report.refusal = s.report.refusal ∧
    (s.endRepetition g).mgmt = s.mgmt ∧ (s.endRepetition g).pins = s.pins ∧ (s.endRepetition g).pending = s.pending ∧
    (s.endRepetition g).clocks = s.clocks := by
  simp only [State.endRepetition]; (repeat' split) <;> simp

@[simp] theorem State.endRepetition_config (s : State) (g : GroupId) (h : GroupId) :
    (s.endRepetition g).groups[h.val].config = s.groups[h.val].config := by
  simp only [State.endRepetition]; (repeat' split) <;> simp

@[simp] theorem State.stopAfterRepetition_keeps (s : State) (g : GroupId) (stopping : Bool) :
    (s.stopAfterRepetition g stopping).decoder = s.decoder ∧
    (s.stopAfterRepetition g stopping).upstream.host = s.upstream.host ∧
    (s.stopAfterRepetition g stopping).queue.holdLimit = s.queue.holdLimit ∧
    (s.stopAfterRepetition g stopping).engine.phase = s.engine.phase ∧
    (s.stopAfterRepetition g stopping).arbiter = s.arbiter ∧ (s.stopAfterRepetition g stopping).link = s.link ∧
    (s.stopAfterRepetition g stopping).time = s.time ∧ (s.stopAfterRepetition g stopping).inhibit = s.inhibit ∧
    (s.stopAfterRepetition g stopping).report.mask = s.report.mask ∧
    (s.stopAfterRepetition g stopping).report.events = s.report.events ∧
    (s.stopAfterRepetition g stopping).report.refusal = s.report.refusal ∧
    (s.stopAfterRepetition g stopping).mgmt = s.mgmt ∧ (s.stopAfterRepetition g stopping).pins = s.pins ∧
    (s.stopAfterRepetition g stopping).pending = s.pending ∧ (s.stopAfterRepetition g stopping).clocks = s.clocks := by
  simp only [State.stopAfterRepetition]; (repeat' split) <;> simp

@[simp] theorem State.stopAfterRepetition_config (s : State) (g : GroupId) (stopping : Bool) (h : GroupId) :
    (s.stopAfterRepetition g stopping).groups[h.val].config = s.groups[h.val].config := by
  simp only [State.stopAfterRepetition]; (repeat' split) <;> simp

@[simp] theorem State.forwardRead_keeps (s : State) (c : UCycle) (i : WindowId) (g : GroupId) :
    (s.forwardRead c i g).decoder = s.decoder ∧ (s.forwardRead c i g).queue = s.queue ∧
    (s.forwardRead c i g).groups = s.groups ∧ (s.forwardRead c i g).ready = s.ready ∧
    (s.forwardRead c i g).heldList = s.heldList ∧ (s.forwardRead c i g).engine.tally = s.engine.tally ∧
    (s.forwardRead c i g).arbiter.burstLimit = s.arbiter.burstLimit ∧
    (s.forwardRead c i g).arbiter.dTimeout = s.arbiter.dTimeout ∧ (s.forwardRead c i g).link = s.link ∧
    (s.forwardRead c i g).time = s.time ∧ (s.forwardRead c i g).inhibit = s.inhibit ∧
    (s.forwardRead c i g).report = s.report ∧ (s.forwardRead c i g).mgmt = s.mgmt ∧ (s.forwardRead c i g).pins = s.pins ∧
    (s.forwardRead c i g).pending = s.pending ∧ (s.forwardRead c i g).clocks = s.clocks := by
  simp only [State.forwardRead]; (repeat' split) <;> simp

@[simp] theorem State.stopGroup_keeps (s : State) (g : GroupId) :
    (s.stopGroup g).decoder = s.decoder ∧ (s.stopGroup g).upstream.host = s.upstream.host ∧
    (s.stopGroup g).queue.holdLimit = s.queue.holdLimit ∧ (s.stopGroup g).arbiter = s.arbiter ∧
    (s.stopGroup g).link = s.link ∧ (s.stopGroup g).time = s.time ∧ (s.stopGroup g).inhibit = s.inhibit ∧
    (s.stopGroup g).report.mask = s.report.mask ∧ (s.stopGroup g).report.events = s.report.events ∧
    (s.stopGroup g).report.refusal = s.report.refusal ∧ (s.stopGroup g).mgmt = s.mgmt ∧ (s.stopGroup g).pins = s.pins ∧
    (s.stopGroup g).pending = s.pending ∧ (s.stopGroup g).clocks = s.clocks := by
  simp only [State.stopGroup]; (repeat' split) <;> simp

@[simp] theorem State.stopGroup_config (s : State) (g : GroupId) (h : GroupId) :
    (s.stopGroup g).groups[h.val].config = s.groups[h.val].config := by
  unfold State.stopGroup; (repeat' split) <;> simp

@[simp] theorem State.settleMatch_keeps (s : State) (t : Trigger) (g : GroupId) :
    (s.settleMatch t g).decoder = s.decoder ∧ (s.settleMatch t g).upstream = s.upstream ∧
    (s.settleMatch t g).queue.arrival = s.queue.arrival ∧ (s.settleMatch t g).queue.held = s.queue.held ∧
    (s.settleMatch t g).queue.holdTimer = s.queue.holdTimer ∧ (s.settleMatch t g).queue.holdLimit = s.queue.holdLimit ∧
    (s.settleMatch t g).engine = s.engine ∧ (s.settleMatch t g).arbiter = s.arbiter ∧ (s.settleMatch t g).link = s.link ∧
    (s.settleMatch t g).time = s.time ∧ (s.settleMatch t g).inhibit = s.inhibit ∧
    (s.settleMatch t g).report.mask = s.report.mask ∧ (s.settleMatch t g).report.events = s.report.events ∧
    (s.settleMatch t g).report.refusal = s.report.refusal ∧ (s.settleMatch t g).mgmt = s.mgmt ∧
    (s.settleMatch t g).pins = s.pins ∧ (s.settleMatch t g).pending = s.pending ∧ (s.settleMatch t g).clocks = s.clocks := by
  simp only [State.settleMatch]; (repeat' split) <;> simp

@[simp] theorem State.settleMatch_config (s : State) (t : Trigger) (g : GroupId) (h : GroupId) :
    (s.settleMatch t g).groups[h.val].config = s.groups[h.val].config := by
  unfold State.settleMatch; (repeat' split) <;> simp

@[simp] theorem State.inhibitClear_keeps (s : State) :
    (s.inhibitClear).decoder = s.decoder ∧ (s.inhibitClear).upstream.response = s.upstream.response ∧
    (s.inhibitClear).queue = s.queue ∧ (s.inhibitClear).engine.tally = s.engine.tally ∧
    (s.inhibitClear).arbiter.burstLimit = s.arbiter.burstLimit ∧ (s.inhibitClear).arbiter.dTimeout = s.arbiter.dTimeout ∧
    (s.inhibitClear).link = s.link ∧ (s.inhibitClear).time = s.time ∧ (s.inhibitClear).inhibit = s.inhibit ∧
    (s.inhibitClear).report = s.report ∧ (s.inhibitClear).mgmt = s.mgmt ∧ (s.inhibitClear).pins = s.pins ∧
    (s.inhibitClear).pending = s.pending ∧ (s.inhibitClear).clocks = s.clocks := by
  simp only [State.inhibitClear]; simp

@[simp] theorem State.inhibitClear_config (s : State) (h : GroupId) :
    (s.inhibitClear).groups[h.val].config = s.groups[h.val].config := by
  simp only [State.inhibitClear]; simp

@[simp] theorem State.takeDelay_keeps (s : State) (g : GroupId) :
    (s.takeDelay g).decoder = s.decoder ∧ (s.takeDelay g).upstream.response = s.upstream.response ∧
    (s.takeDelay g).queue = s.queue ∧ (s.takeDelay g).engine.tally = s.engine.tally ∧
    (s.takeDelay g).arbiter.burstLimit = s.arbiter.burstLimit ∧ (s.takeDelay g).arbiter.dTimeout = s.arbiter.dTimeout ∧
    (s.takeDelay g).link = s.link ∧ (s.takeDelay g).time = s.time ∧ (s.takeDelay g).inhibit = s.inhibit ∧
    (s.takeDelay g).report = s.report ∧ (s.takeDelay g).mgmt = s.mgmt ∧ (s.takeDelay g).pins = s.pins ∧
    (s.takeDelay g).pending = s.pending ∧ (s.takeDelay g).clocks = s.clocks := by
  simp only [State.takeDelay]; (repeat' split) <;> simp

@[simp] theorem State.takeDelay_config (s : State) (g : GroupId) (h : GroupId) :
    (s.takeDelay g).groups[h.val].config = s.groups[h.val].config := by
  simp only [State.takeDelay]; (repeat' split) <;> simp

@[simp] theorem State.takeInterval_keeps (s : State) (g : GroupId) :
    (s.takeInterval g).decoder = s.decoder ∧ (s.takeInterval g).upstream.response = s.upstream.response ∧
    (s.takeInterval g).queue = s.queue ∧ (s.takeInterval g).engine.tally = s.engine.tally ∧
    (s.takeInterval g).arbiter.burstLimit = s.arbiter.burstLimit ∧
    (s.takeInterval g).arbiter.dTimeout = s.arbiter.dTimeout ∧ (s.takeInterval g).link = s.link ∧
    (s.takeInterval g).time = s.time ∧ (s.takeInterval g).inhibit = s.inhibit ∧ (s.takeInterval g).report = s.report ∧
    (s.takeInterval g).mgmt = s.mgmt ∧ (s.takeInterval g).pins = s.pins ∧ (s.takeInterval g).pending = s.pending ∧
    (s.takeInterval g).clocks = s.clocks := by
  simp only [State.takeInterval]; (repeat' split) <;> simp

@[simp] theorem State.takeInterval_config (s : State) (g : GroupId) (h : GroupId) :
    (s.takeInterval g).groups[h.val].config = s.groups[h.val].config := by
  simp only [State.takeInterval]; (repeat' split) <;> simp

@[simp] theorem State.purgeEntries_keeps (s : State) (g : GroupId) :
    (s.purgeEntries g).decoder = s.decoder ∧ (s.purgeEntries g).queue.holdLimit = s.queue.holdLimit ∧
    (s.purgeEntries g).arbiter.burstLimit = s.arbiter.burstLimit ∧
    (s.purgeEntries g).arbiter.dTimeout = s.arbiter.dTimeout ∧ (s.purgeEntries g).link = s.link ∧
    (s.purgeEntries g).time = s.time ∧ (s.purgeEntries g).inhibit = s.inhibit ∧
    (s.purgeEntries g).report.mask = s.report.mask ∧ (s.purgeEntries g).report.events = s.report.events ∧
    (s.purgeEntries g).report.refusal = s.report.refusal ∧ (s.purgeEntries g).mgmt = s.mgmt ∧
    (s.purgeEntries g).pins = s.pins ∧ (s.purgeEntries g).pending = s.pending ∧ (s.purgeEntries g).clocks = s.clocks := by
  simp only [State.purgeEntries]; (repeat' split) <;> simp

@[simp] theorem State.purgeEntries_config (s : State) (g : GroupId) (h : GroupId) :
    (s.purgeEntries g).groups[h.val].config = s.groups[h.val].config := by
  simp only [State.purgeEntries]; (repeat' split) <;> simp

@[simp] theorem State.resumeRetry_keeps (s : State) (g : GroupId) :
    (s.resumeRetry g).decoder = s.decoder ∧ (s.resumeRetry g).upstream.response = s.upstream.response ∧
    (s.resumeRetry g).queue = s.queue ∧ (s.resumeRetry g).engine.tally = s.engine.tally ∧
    (s.resumeRetry g).arbiter.burstLimit = s.arbiter.burstLimit ∧
    (s.resumeRetry g).arbiter.dTimeout = s.arbiter.dTimeout ∧ (s.resumeRetry g).link = s.link ∧
    (s.resumeRetry g).time = s.time ∧ (s.resumeRetry g).inhibit = s.inhibit ∧ (s.resumeRetry g).report = s.report ∧
    (s.resumeRetry g).mgmt = s.mgmt ∧ (s.resumeRetry g).pins = s.pins ∧ (s.resumeRetry g).pending = s.pending ∧
    (s.resumeRetry g).clocks = s.clocks := by
  simp only [State.resumeRetry]; simp

@[simp] theorem State.resumeRetry_config (s : State) (g : GroupId) (h : GroupId) :
    (s.resumeRetry g).groups[h.val].config = s.groups[h.val].config := by
  simp only [State.resumeRetry]; simp

@[simp] theorem State.betweenEntries_keeps (s : State) (g : GroupId) (stopping : Bool) :
    (s.betweenEntries g stopping).decoder = s.decoder ∧ (s.betweenEntries g stopping).upstream.host = s.upstream.host ∧
    (s.betweenEntries g stopping).queue.holdLimit = s.queue.holdLimit ∧
    (s.betweenEntries g stopping).arbiter = s.arbiter ∧ (s.betweenEntries g stopping).link = s.link ∧
    (s.betweenEntries g stopping).time = s.time ∧ (s.betweenEntries g stopping).inhibit = s.inhibit ∧
    (s.betweenEntries g stopping).report.mask = s.report.mask ∧
    (s.betweenEntries g stopping).report.events = s.report.events ∧
    (s.betweenEntries g stopping).report.refusal = s.report.refusal ∧ (s.betweenEntries g stopping).mgmt = s.mgmt ∧
    (s.betweenEntries g stopping).pins = s.pins ∧ (s.betweenEntries g stopping).pending = s.pending ∧
    (s.betweenEntries g stopping).clocks = s.clocks := by
  simp only [State.betweenEntries]; (repeat' split) <;> simp

@[simp] theorem State.betweenEntries_config (s : State) (g : GroupId) (stopping : Bool) (h : GroupId) :
    (s.betweenEntries g stopping).groups[h.val].config = s.groups[h.val].config := by
  simp only [State.betweenEntries]; (repeat' split) <;> simp

@[simp] theorem State.routeCycle_keeps (s : State) (c : UCycle) (d : Decision) :
    (s.routeCycle c d).decoder = s.decoder ∧ (s.routeCycle c d).queue.holdLimit = s.queue.holdLimit ∧
    (s.routeCycle c d).groups = s.groups ∧ (s.routeCycle c d).ready = s.ready ∧ (s.routeCycle c d).heldList = s.heldList ∧
    (s.routeCycle c d).engine.tally = s.engine.tally ∧ (s.routeCycle c d).arbiter.burstLimit = s.arbiter.burstLimit ∧
    (s.routeCycle c d).arbiter.dTimeout = s.arbiter.dTimeout ∧ (s.routeCycle c d).link = s.link ∧
    (s.routeCycle c d).time = s.time ∧ (s.routeCycle c d).inhibit = s.inhibit ∧
    (s.routeCycle c d).report.mask = s.report.mask ∧ (s.routeCycle c d).report.completions = s.report.completions ∧
    (s.routeCycle c d).report.events = s.report.events ∧ (s.routeCycle c d).mgmt = s.mgmt ∧
    (s.routeCycle c d).pins = s.pins ∧ (s.routeCycle c d).pending = s.pending ∧ (s.routeCycle c d).clocks = s.clocks := by
  simp only [State.routeCycle]; (repeat' split) <;> simp

@[simp] theorem State.settleTrigger_keeps (t : Trigger) (s : State) (g : GroupId) :
    (State.settleTrigger t s g).decoder = s.decoder ∧ (State.settleTrigger t s g).upstream = s.upstream ∧
    (State.settleTrigger t s g).queue.arrival = s.queue.arrival ∧ (State.settleTrigger t s g).queue.held = s.queue.held ∧
    (State.settleTrigger t s g).queue.holdTimer = s.queue.holdTimer ∧
    (State.settleTrigger t s g).queue.holdLimit = s.queue.holdLimit ∧ (State.settleTrigger t s g).engine = s.engine ∧
    (State.settleTrigger t s g).arbiter = s.arbiter ∧ (State.settleTrigger t s g).link = s.link ∧
    (State.settleTrigger t s g).time = s.time ∧ (State.settleTrigger t s g).inhibit = s.inhibit ∧
    (State.settleTrigger t s g).report.mask = s.report.mask ∧
    (State.settleTrigger t s g).report.events = s.report.events ∧
    (State.settleTrigger t s g).report.refusal = s.report.refusal ∧ (State.settleTrigger t s g).mgmt = s.mgmt ∧
    (State.settleTrigger t s g).pins = s.pins ∧ (State.settleTrigger t s g).pending = s.pending ∧
    (State.settleTrigger t s g).clocks = s.clocks := by
  simp only [State.settleTrigger]; (repeat' split) <;> simp

@[simp] theorem State.settleTrigger_config (t : Trigger) (s : State) (g : GroupId) (h : GroupId) :
    (State.settleTrigger t s g).groups[h.val].config = s.groups[h.val].config := by
  simp only [State.settleTrigger]; (repeat' split) <;> simp

@[simp] theorem State.stopReached_keeps (choice : ChannelChoice) (p : Profile) (s : State) (g : GroupId) :
    (State.stopReached choice p s g).decoder = s.decoder ∧
    (State.stopReached choice p s g).upstream.host = s.upstream.host ∧
    (State.stopReached choice p s g).queue.holdLimit = s.queue.holdLimit ∧
    (State.stopReached choice p s g).arbiter = s.arbiter ∧ (State.stopReached choice p s g).link = s.link ∧
    (State.stopReached choice p s g).time = s.time ∧ (State.stopReached choice p s g).inhibit = s.inhibit ∧
    (State.stopReached choice p s g).report.mask = s.report.mask ∧
    (State.stopReached choice p s g).report.events = s.report.events ∧
    (State.stopReached choice p s g).report.refusal = s.report.refusal ∧ (State.stopReached choice p s g).mgmt = s.mgmt ∧
    (State.stopReached choice p s g).pins = s.pins ∧ (State.stopReached choice p s g).pending = s.pending ∧
    (State.stopReached choice p s g).clocks = s.clocks := by
  simp only [State.stopReached]; (repeat' split) <;> simp

@[simp] theorem State.stopReached_config (choice : ChannelChoice) (p : Profile) (s : State) (g : GroupId) (h : GroupId) :
    (State.stopReached choice p s g).groups[h.val].config = s.groups[h.val].config := by
  simp only [State.stopReached]; (repeat' split) <;> simp

@[simp] theorem State.changeSources_keeps (s : State) (i : InhibitSet) :
    (s.changeSources i).decoder = s.decoder ∧ (s.changeSources i).upstream.response = s.upstream.response ∧
    (s.changeSources i).queue = s.queue ∧ (s.changeSources i).engine.tally = s.engine.tally ∧
    (s.changeSources i).arbiter.burstLimit = s.arbiter.burstLimit ∧
    (s.changeSources i).arbiter.dTimeout = s.arbiter.dTimeout ∧ (s.changeSources i).link = s.link ∧
    (s.changeSources i).time = s.time ∧ (s.changeSources i).inhibit.onLinkLoss = s.inhibit.onLinkLoss ∧
    (s.changeSources i).report.mask = s.report.mask ∧ (s.changeSources i).report.completions = s.report.completions ∧
    (s.changeSources i).report.events = s.report.events ∧ (s.changeSources i).report.refusal = s.report.refusal ∧
    (s.changeSources i).mgmt = s.mgmt ∧ (s.changeSources i).pins = s.pins ∧ (s.changeSources i).pending = s.pending ∧
    (s.changeSources i).clocks = s.clocks := by
  simp only [State.changeSources]; (repeat' split) <;> simp

@[simp] theorem State.changeSources_config (s : State) (i : InhibitSet) (h : GroupId) :
    (s.changeSources i).groups[h.val].config = s.groups[h.val].config := by
  simp only [State.changeSources]; (repeat' split) <;> simp

@[simp] theorem State.takeGroupExpiry_keeps (s : State) (g : GroupId) :
    (s.takeGroupExpiry g).decoder = s.decoder ∧ (s.takeGroupExpiry g).upstream.response = s.upstream.response ∧
    (s.takeGroupExpiry g).queue = s.queue ∧ (s.takeGroupExpiry g).engine.tally = s.engine.tally ∧
    (s.takeGroupExpiry g).arbiter.burstLimit = s.arbiter.burstLimit ∧
    (s.takeGroupExpiry g).arbiter.dTimeout = s.arbiter.dTimeout ∧ (s.takeGroupExpiry g).link = s.link ∧
    (s.takeGroupExpiry g).time = s.time ∧ (s.takeGroupExpiry g).inhibit = s.inhibit ∧
    (s.takeGroupExpiry g).report = s.report ∧ (s.takeGroupExpiry g).mgmt = s.mgmt ∧ (s.takeGroupExpiry g).pins = s.pins ∧
    (s.takeGroupExpiry g).pending = s.pending ∧ (s.takeGroupExpiry g).clocks = s.clocks := by
  simp only [State.takeGroupExpiry]; simp

@[simp] theorem State.takeGroupExpiry_config (s : State) (g : GroupId) (h : GroupId) :
    (s.takeGroupExpiry g).groups[h.val].config = s.groups[h.val].config := by
  simp only [State.takeGroupExpiry]; simp

@[simp] theorem State.resumeSkip_keeps (s : State) (g : GroupId) :
    (s.resumeSkip g).decoder = s.decoder ∧ (s.resumeSkip g).queue.holdLimit = s.queue.holdLimit ∧
    (s.resumeSkip g).arbiter.burstLimit = s.arbiter.burstLimit ∧ (s.resumeSkip g).arbiter.dTimeout = s.arbiter.dTimeout ∧
    (s.resumeSkip g).link = s.link ∧ (s.resumeSkip g).time = s.time ∧ (s.resumeSkip g).inhibit = s.inhibit ∧
    (s.resumeSkip g).report.mask = s.report.mask ∧ (s.resumeSkip g).report.events = s.report.events ∧
    (s.resumeSkip g).report.refusal = s.report.refusal ∧ (s.resumeSkip g).mgmt = s.mgmt ∧ (s.resumeSkip g).pins = s.pins ∧
    (s.resumeSkip g).pending = s.pending ∧ (s.resumeSkip g).clocks = s.clocks := by
  simp only [State.resumeSkip]; (repeat' split) <;> simp

@[simp] theorem State.resumeSkip_config (s : State) (g : GroupId) (h : GroupId) :
    (s.resumeSkip g).groups[h.val].config = s.groups[h.val].config := by
  simp only [State.resumeSkip]; (repeat' split) <;> simp

@[simp] theorem State.writeDone_keeps (s : State) (g : GroupId) (stopping : Bool) :
    (s.writeDone g stopping).decoder = s.decoder ∧ (s.writeDone g stopping).upstream.host = s.upstream.host ∧
    (s.writeDone g stopping).queue.holdLimit = s.queue.holdLimit ∧ (s.writeDone g stopping).arbiter = s.arbiter ∧
    (s.writeDone g stopping).link = s.link ∧ (s.writeDone g stopping).time = s.time ∧
    (s.writeDone g stopping).inhibit = s.inhibit ∧ (s.writeDone g stopping).report.mask = s.report.mask ∧
    (s.writeDone g stopping).report.events = s.report.events ∧
    (s.writeDone g stopping).report.refusal = s.report.refusal ∧ (s.writeDone g stopping).mgmt = s.mgmt ∧
    (s.writeDone g stopping).pins = s.pins ∧ (s.writeDone g stopping).pending = s.pending ∧
    (s.writeDone g stopping).clocks = s.clocks := by
  simp only [State.writeDone]; simp

@[simp] theorem State.writeDone_config (s : State) (g : GroupId) (stopping : Bool) (h : GroupId) :
    (s.writeDone g stopping).groups[h.val].config = s.groups[h.val].config := by
  simp only [State.writeDone]; simp

@[simp] theorem State.writeFault_keeps (s : State) (g : GroupId) (stopping : Bool) (word : Addr) :
    (s.writeFault g stopping word).decoder = s.decoder ∧ (s.writeFault g stopping word).upstream.host = s.upstream.host ∧
    (s.writeFault g stopping word).queue.holdLimit = s.queue.holdLimit ∧
    (s.writeFault g stopping word).arbiter = s.arbiter ∧ (s.writeFault g stopping word).link = s.link ∧
    (s.writeFault g stopping word).time = s.time ∧ (s.writeFault g stopping word).inhibit = s.inhibit ∧
    (s.writeFault g stopping word).report.mask = s.report.mask ∧
    (s.writeFault g stopping word).report.events = s.report.events ∧
    (s.writeFault g stopping word).report.refusal = s.report.refusal ∧ (s.writeFault g stopping word).mgmt = s.mgmt ∧
    (s.writeFault g stopping word).pins = s.pins ∧ (s.writeFault g stopping word).pending = s.pending ∧
    (s.writeFault g stopping word).clocks = s.clocks := by
  simp only [State.writeFault]; (repeat' split) <;> simp

@[simp] theorem State.writeFault_config (s : State) (g : GroupId) (stopping : Bool) (word : Addr) (h : GroupId) :
    (s.writeFault g stopping word).groups[h.val].config = s.groups[h.val].config := by
  unfold State.writeFault; dsimp only; (repeat' split) <;> simp

@[simp] theorem State.offerTrigger_keeps (s : State) (t : Trigger) :
    (s.offerTrigger t).decoder = s.decoder ∧ (s.offerTrigger t).upstream.response = s.upstream.response ∧
    (s.offerTrigger t).queue.arrival = s.queue.arrival ∧ (s.offerTrigger t).queue.held = s.queue.held ∧
    (s.offerTrigger t).queue.holdTimer = s.queue.holdTimer ∧ (s.offerTrigger t).queue.holdLimit = s.queue.holdLimit ∧
    (s.offerTrigger t).engine.tally = s.engine.tally ∧ (s.offerTrigger t).arbiter.burstLimit = s.arbiter.burstLimit ∧
    (s.offerTrigger t).arbiter.dTimeout = s.arbiter.dTimeout ∧ (s.offerTrigger t).link = s.link ∧
    (s.offerTrigger t).time = s.time ∧ (s.offerTrigger t).inhibit = s.inhibit ∧
    (s.offerTrigger t).report.mask = s.report.mask ∧ (s.offerTrigger t).report.events = s.report.events ∧
    (s.offerTrigger t).report.refusal = s.report.refusal ∧ (s.offerTrigger t).mgmt = s.mgmt ∧
    (s.offerTrigger t).pins = s.pins ∧ (s.offerTrigger t).pending = s.pending ∧ (s.offerTrigger t).clocks = s.clocks := by
  refine ⟨?_, ?_, ?_, ?_, ?_, ?_, ?_, ?_, ?_, ?_, ?_, ?_, ?_, ?_, ?_, ?_, ?_, ?_, ?_⟩
  · have k := foldl_keeps (fun s : State => s.decoder) (State.settleTrigger t) (fun s g => by simp) groupIds s; simp only [State.offerTrigger]; simp [k]
  · have k := foldl_keeps (fun s : State => s.upstream.response) (State.settleTrigger t) (fun s g => by simp) groupIds s; simp only [State.offerTrigger]; simp [k]
  · have k := foldl_keeps (fun s : State => s.queue.arrival) (State.settleTrigger t) (fun s g => by simp) groupIds s; simp only [State.offerTrigger]; simp [k]
  · have k := foldl_keeps (fun s : State => s.queue.held) (State.settleTrigger t) (fun s g => by simp) groupIds s; simp only [State.offerTrigger]; simp [k]
  · have k := foldl_keeps (fun s : State => s.queue.holdTimer) (State.settleTrigger t) (fun s g => by simp) groupIds s; simp only [State.offerTrigger]; simp [k]
  · have k := foldl_keeps (fun s : State => s.queue.holdLimit) (State.settleTrigger t) (fun s g => by simp) groupIds s; simp only [State.offerTrigger]; simp [k]
  · have k := foldl_keeps (fun s : State => s.engine.tally) (State.settleTrigger t) (fun s g => by simp) groupIds s; simp only [State.offerTrigger]; simp [k]
  · have k := foldl_keeps (fun s : State => s.arbiter.burstLimit) (State.settleTrigger t) (fun s g => by simp) groupIds s; simp only [State.offerTrigger]; simp [k]
  · have k := foldl_keeps (fun s : State => s.arbiter.dTimeout) (State.settleTrigger t) (fun s g => by simp) groupIds s; simp only [State.offerTrigger]; simp [k]
  · have k := foldl_keeps (fun s : State => s.link) (State.settleTrigger t) (fun s g => by simp) groupIds s; simp only [State.offerTrigger]; simp [k]
  · have k := foldl_keeps (fun s : State => s.time) (State.settleTrigger t) (fun s g => by simp) groupIds s; simp only [State.offerTrigger]; simp [k]
  · have k := foldl_keeps (fun s : State => s.inhibit) (State.settleTrigger t) (fun s g => by simp) groupIds s; simp only [State.offerTrigger]; simp [k]
  · have k := foldl_keeps (fun s : State => s.report.mask) (State.settleTrigger t) (fun s g => by simp) groupIds s; simp only [State.offerTrigger]; simp [k]
  · have k := foldl_keeps (fun s : State => s.report.events) (State.settleTrigger t) (fun s g => by simp) groupIds s; simp only [State.offerTrigger]; simp [k]
  · have k := foldl_keeps (fun s : State => s.report.refusal) (State.settleTrigger t) (fun s g => by simp) groupIds s; simp only [State.offerTrigger]; simp [k]
  · have k := foldl_keeps (fun s : State => s.mgmt) (State.settleTrigger t) (fun s g => by simp) groupIds s; simp only [State.offerTrigger]; simp [k]
  · have k := foldl_keeps (fun s : State => s.pins) (State.settleTrigger t) (fun s g => by simp) groupIds s; simp only [State.offerTrigger]; simp [k]
  · have k := foldl_keeps (fun s : State => s.pending) (State.settleTrigger t) (fun s g => by simp) groupIds s; simp only [State.offerTrigger]; simp [k]
  · have k := foldl_keeps (fun s : State => s.clocks) (State.settleTrigger t) (fun s g => by simp) groupIds s; simp only [State.offerTrigger]; simp [k]

@[simp] theorem State.offerTrigger_config (s : State) (t : Trigger) (h : GroupId) :
    (s.offerTrigger t).groups[h.val].config = s.groups[h.val].config := by
  have k := foldl_keeps (fun s : State => s.groups[h.val].config) (State.settleTrigger t) (fun s g => by simp) groupIds s; simp only [State.offerTrigger]; simp [k]

@[simp] theorem State.stop_keeps (s : State) (choice : ChannelChoice) (p : Profile) :
    (s.stop choice p).decoder = s.decoder ∧ (s.stop choice p).queue.holdLimit = s.queue.holdLimit ∧
    (s.stop choice p).arbiter.burstLimit = s.arbiter.burstLimit ∧
    (s.stop choice p).arbiter.dTimeout = s.arbiter.dTimeout ∧ (s.stop choice p).link = s.link ∧
    (s.stop choice p).time = s.time ∧ (s.stop choice p).inhibit = s.inhibit ∧
    (s.stop choice p).report.mask = s.report.mask ∧ (s.stop choice p).report.events = s.report.events ∧
    (s.stop choice p).report.refusal = s.report.refusal ∧ (s.stop choice p).mgmt = s.mgmt ∧
    (s.stop choice p).pins = s.pins ∧ (s.stop choice p).pending = s.pending ∧ (s.stop choice p).clocks = s.clocks := by
  refine ⟨?_, ?_, ?_, ?_, ?_, ?_, ?_, ?_, ?_, ?_, ?_, ?_, ?_, ?_⟩
  · simp only [State.stop]; have k := fun s => foldl_keeps (fun s : State => s.decoder) (State.stopReached choice p) (fun s g => by simp) groupIds s; simp [k]
  · simp only [State.stop]; have k := fun s => foldl_keeps (fun s : State => s.queue.holdLimit) (State.stopReached choice p) (fun s g => by simp) groupIds s; simp [k]
  · simp only [State.stop]; have k := fun s => foldl_keeps (fun s : State => s.arbiter.burstLimit) (State.stopReached choice p) (fun s g => by simp) groupIds s; simp [k]
  · simp only [State.stop]; have k := fun s => foldl_keeps (fun s : State => s.arbiter.dTimeout) (State.stopReached choice p) (fun s g => by simp) groupIds s; simp [k]
  · simp only [State.stop]; have k := fun s => foldl_keeps (fun s : State => s.link) (State.stopReached choice p) (fun s g => by simp) groupIds s; simp [k]
  · simp only [State.stop]; have k := fun s => foldl_keeps (fun s : State => s.time) (State.stopReached choice p) (fun s g => by simp) groupIds s; simp [k]
  · simp only [State.stop]; have k := fun s => foldl_keeps (fun s : State => s.inhibit) (State.stopReached choice p) (fun s g => by simp) groupIds s; simp [k]
  · simp only [State.stop]; have k := fun s => foldl_keeps (fun s : State => s.report.mask) (State.stopReached choice p) (fun s g => by simp) groupIds s; simp [k]
  · simp only [State.stop]; have k := fun s => foldl_keeps (fun s : State => s.report.events) (State.stopReached choice p) (fun s g => by simp) groupIds s; simp [k]
  · simp only [State.stop]; have k := fun s => foldl_keeps (fun s : State => s.report.refusal) (State.stopReached choice p) (fun s g => by simp) groupIds s; simp [k]
  · simp only [State.stop]; have k := fun s => foldl_keeps (fun s : State => s.mgmt) (State.stopReached choice p) (fun s g => by simp) groupIds s; simp [k]
  · simp only [State.stop]; have k := fun s => foldl_keeps (fun s : State => s.pins) (State.stopReached choice p) (fun s g => by simp) groupIds s; simp [k]
  · simp only [State.stop]; have k := fun s => foldl_keeps (fun s : State => s.pending) (State.stopReached choice p) (fun s g => by simp) groupIds s; simp [k]
  · simp only [State.stop]; have k := fun s => foldl_keeps (fun s : State => s.clocks) (State.stopReached choice p) (fun s g => by simp) groupIds s; simp [k]

@[simp] theorem State.stop_config (s : State) (choice : ChannelChoice) (p : Profile) (h : GroupId) :
    (s.stop choice p).groups[h.val].config = s.groups[h.val].config := by
  simp only [State.stop]; have k := fun s => foldl_keeps (fun s : State => s.groups[h.val].config) (State.stopReached choice p) (fun s g => by simp) groupIds s; simp [k]

@[simp] theorem State.inhibitLinkDown_keeps (s : State) :
    (s.inhibitLinkDown).decoder = s.decoder ∧ (s.inhibitLinkDown).upstream.response = s.upstream.response ∧
    (s.inhibitLinkDown).queue = s.queue ∧ (s.inhibitLinkDown).engine.tally = s.engine.tally ∧
    (s.inhibitLinkDown).arbiter.burstLimit = s.arbiter.burstLimit ∧
    (s.inhibitLinkDown).arbiter.dTimeout = s.arbiter.dTimeout ∧ (s.inhibitLinkDown).link = s.link ∧
    (s.inhibitLinkDown).time = s.time ∧ (s.inhibitLinkDown).inhibit.onLinkLoss = s.inhibit.onLinkLoss ∧
    (s.inhibitLinkDown).report.mask = s.report.mask ∧ (s.inhibitLinkDown).report.completions = s.report.completions ∧
    (s.inhibitLinkDown).report.events = s.report.events ∧ (s.inhibitLinkDown).report.refusal = s.report.refusal ∧
    (s.inhibitLinkDown).mgmt = s.mgmt ∧ (s.inhibitLinkDown).pins = s.pins ∧ (s.inhibitLinkDown).pending = s.pending ∧
    (s.inhibitLinkDown).clocks = s.clocks := by
  simp only [State.inhibitLinkDown]; (repeat' split) <;> simp

@[simp] theorem State.inhibitLinkDown_config (s : State) (h : GroupId) :
    (s.inhibitLinkDown).groups[h.val].config = s.groups[h.val].config := by
  simp only [State.inhibitLinkDown]; (repeat' split) <;> simp

@[simp] theorem State.inhibitLinkUp_keeps (s : State) :
    (s.inhibitLinkUp).decoder = s.decoder ∧ (s.inhibitLinkUp).upstream.response = s.upstream.response ∧
    (s.inhibitLinkUp).queue = s.queue ∧ (s.inhibitLinkUp).engine.tally = s.engine.tally ∧
    (s.inhibitLinkUp).arbiter.burstLimit = s.arbiter.burstLimit ∧
    (s.inhibitLinkUp).arbiter.dTimeout = s.arbiter.dTimeout ∧ (s.inhibitLinkUp).link = s.link ∧
    (s.inhibitLinkUp).time = s.time ∧ (s.inhibitLinkUp).inhibit.onLinkLoss = s.inhibit.onLinkLoss ∧
    (s.inhibitLinkUp).report.mask = s.report.mask ∧ (s.inhibitLinkUp).report.completions = s.report.completions ∧
    (s.inhibitLinkUp).report.events = s.report.events ∧ (s.inhibitLinkUp).report.refusal = s.report.refusal ∧
    (s.inhibitLinkUp).mgmt = s.mgmt ∧ (s.inhibitLinkUp).pins = s.pins ∧ (s.inhibitLinkUp).pending = s.pending ∧
    (s.inhibitLinkUp).clocks = s.clocks := by
  simp only [State.inhibitLinkUp]; simp

@[simp] theorem State.inhibitLinkUp_config (s : State) (h : GroupId) :
    (s.inhibitLinkUp).groups[h.val].config = s.groups[h.val].config := by
  simp only [State.inhibitLinkUp]; simp

@[simp] theorem State.setOnLinkLoss_keeps (s : State) (v : Bool) :
    (s.setOnLinkLoss v).decoder = s.decoder ∧ (s.setOnLinkLoss v).upstream.response = s.upstream.response ∧
    (s.setOnLinkLoss v).queue = s.queue ∧ (s.setOnLinkLoss v).engine.tally = s.engine.tally ∧
    (s.setOnLinkLoss v).arbiter.burstLimit = s.arbiter.burstLimit ∧
    (s.setOnLinkLoss v).arbiter.dTimeout = s.arbiter.dTimeout ∧ (s.setOnLinkLoss v).link = s.link ∧
    (s.setOnLinkLoss v).time = s.time ∧ (s.setOnLinkLoss v).report.mask = s.report.mask ∧
    (s.setOnLinkLoss v).report.completions = s.report.completions ∧ (s.setOnLinkLoss v).report.events = s.report.events ∧
    (s.setOnLinkLoss v).report.refusal = s.report.refusal ∧ (s.setOnLinkLoss v).mgmt = s.mgmt ∧
    (s.setOnLinkLoss v).pins = s.pins ∧ (s.setOnLinkLoss v).pending = s.pending ∧ (s.setOnLinkLoss v).clocks = s.clocks := by
  simp only [State.setOnLinkLoss]; (repeat' split) <;> simp

@[simp] theorem State.setOnLinkLoss_config (s : State) (v : Bool) (h : GroupId) :
    (s.setOnLinkLoss v).groups[h.val].config = s.groups[h.val].config := by
  simp only [State.setOnLinkLoss]; (repeat' split) <;> simp

@[simp] theorem State.engineEnd_keeps (s : State) (o : Outstanding) (e : WriteEnd) :
    (s.engineEnd o e).decoder = s.decoder ∧ (s.engineEnd o e).upstream.host = s.upstream.host ∧
    (s.engineEnd o e).queue.holdLimit = s.queue.holdLimit ∧ (s.engineEnd o e).arbiter = s.arbiter ∧
    (s.engineEnd o e).link = s.link ∧ (s.engineEnd o e).time = s.time ∧ (s.engineEnd o e).inhibit = s.inhibit ∧
    (s.engineEnd o e).report.mask = s.report.mask ∧ (s.engineEnd o e).report.events = s.report.events ∧
    (s.engineEnd o e).report.refusal = s.report.refusal ∧ (s.engineEnd o e).mgmt = s.mgmt ∧
    (s.engineEnd o e).pins = s.pins ∧ (s.engineEnd o e).pending = s.pending ∧ (s.engineEnd o e).clocks = s.clocks := by
  simp only [State.engineEnd]; (repeat' split) <;> simp

@[simp] theorem State.engineEnd_config (s : State) (o : Outstanding) (e : WriteEnd) (h : GroupId) :
    (s.engineEnd o e).groups[h.val].config = s.groups[h.val].config := by
  unfold State.engineEnd; (repeat' split) <;> simp

@[simp] theorem State.eventFrame_keeps (s : State) (source : Origin) (code : Byte) (p : Profile) :
    (s.eventFrame source code p).decoder = s.decoder ∧
    (s.eventFrame source code p).upstream.response = s.upstream.response ∧
    (s.eventFrame source code p).queue.arrival = s.queue.arrival ∧
    (s.eventFrame source code p).queue.held = s.queue.held ∧
    (s.eventFrame source code p).queue.holdTimer = s.queue.holdTimer ∧
    (s.eventFrame source code p).queue.holdLimit = s.queue.holdLimit ∧
    (s.eventFrame source code p).engine.tally = s.engine.tally ∧
    (s.eventFrame source code p).arbiter.burstLimit = s.arbiter.burstLimit ∧
    (s.eventFrame source code p).arbiter.dTimeout = s.arbiter.dTimeout ∧ (s.eventFrame source code p).link = s.link ∧
    (s.eventFrame source code p).time = s.time ∧ (s.eventFrame source code p).inhibit = s.inhibit ∧
    (s.eventFrame source code p).report.mask = s.report.mask ∧
    (s.eventFrame source code p).report.refusal = s.report.refusal ∧ (s.eventFrame source code p).mgmt = s.mgmt ∧
    (s.eventFrame source code p).pins = s.pins ∧ (s.eventFrame source code p).pending = s.pending ∧
    (s.eventFrame source code p).clocks = s.clocks := by
  simp only [State.eventFrame]; simp

@[simp] theorem State.eventFrame_config (s : State) (source : Origin) (code : Byte) (p : Profile) (h : GroupId) :
    (s.eventFrame source code p).groups[h.val].config = s.groups[h.val].config := by
  simp only [State.eventFrame]; simp

@[simp] theorem State.enterDown_keeps (s : State) :
    (s.enterDown).decoder = s.decoder ∧ (s.enterDown).upstream.response = s.upstream.response ∧
    (s.enterDown).queue = s.queue ∧ (s.enterDown).engine.tally = s.engine.tally ∧
    (s.enterDown).arbiter.burstLimit = s.arbiter.burstLimit ∧ (s.enterDown).arbiter.dTimeout = s.arbiter.dTimeout ∧
    (s.enterDown).link.lastError = s.link.lastError ∧ (s.enterDown).link.station = s.link.station ∧
    (s.enterDown).link.localChannel = s.link.localChannel ∧ (s.enterDown).link.localProfile = s.link.localProfile ∧
    (s.enterDown).time.source = s.time.source ∧ (s.enterDown).time.tickFrom = s.time.tickFrom ∧
    (s.enterDown).time.counter = s.time.counter ∧ (s.enterDown).time.generation = s.time.generation ∧
    (s.enterDown).time.lastEpoch = s.time.lastEpoch ∧ (s.enterDown).inhibit.onLinkLoss = s.inhibit.onLinkLoss ∧
    (s.enterDown).report.mask = s.report.mask ∧ (s.enterDown).report.completions = s.report.completions ∧
    (s.enterDown).report.events = s.report.events ∧ (s.enterDown).report.refusal = s.report.refusal ∧
    (s.enterDown).mgmt = s.mgmt ∧ (s.enterDown).pins = s.pins ∧ (s.enterDown).pending = s.pending ∧
    (s.enterDown).clocks = s.clocks := by
  simp only [State.enterDown]; (repeat' split) <;> simp

@[simp] theorem State.enterDown_config (s : State) (h : GroupId) :
    (s.enterDown).groups[h.val].config = s.groups[h.val].config := by
  simp only [State.enterDown]; (repeat' split) <;> simp

@[simp] theorem State.enterUp_keeps (s : State) :
    (s.enterUp).decoder = s.decoder ∧ (s.enterUp).upstream.response = s.upstream.response ∧ (s.enterUp).queue = s.queue ∧
    (s.enterUp).engine.tally = s.engine.tally ∧ (s.enterUp).arbiter.burstLimit = s.arbiter.burstLimit ∧
    (s.enterUp).arbiter.dTimeout = s.arbiter.dTimeout ∧ (s.enterUp).link.carrier = s.link.carrier ∧
    (s.enterUp).link.carrierTimer = s.link.carrierTimer ∧ (s.enterUp).link.inFrame = s.link.inFrame ∧
    (s.enterUp).link.lastError = s.link.lastError ∧ (s.enterUp).link.station = s.link.station ∧
    (s.enterUp).link.localChannel = s.link.localChannel ∧ (s.enterUp).link.localProfile = s.link.localProfile ∧
    (s.enterUp).time.source = s.time.source ∧ (s.enterUp).time.tickFrom = s.time.tickFrom ∧
    (s.enterUp).time.counter = s.time.counter ∧ (s.enterUp).time.generation = s.time.generation ∧
    (s.enterUp).time.lastEpoch = s.time.lastEpoch ∧ (s.enterUp).inhibit.onLinkLoss = s.inhibit.onLinkLoss ∧
    (s.enterUp).report.mask = s.report.mask ∧ (s.enterUp).report.completions = s.report.completions ∧
    (s.enterUp).report.events = s.report.events ∧ (s.enterUp).report.refusal = s.report.refusal ∧
    (s.enterUp).mgmt = s.mgmt ∧ (s.enterUp).pins = s.pins ∧ (s.enterUp).pending = s.pending ∧
    (s.enterUp).clocks = s.clocks := by
  simp only [State.enterUp]; simp

@[simp] theorem State.enterUp_config (s : State) (h : GroupId) :
    (s.enterUp).groups[h.val].config = s.groups[h.val].config := by
  simp only [State.enterUp]; simp

@[simp] theorem State.fallBack_keeps (s : State) :
    (s.fallBack).decoder = s.decoder ∧ (s.fallBack).upstream = s.upstream ∧ (s.fallBack).queue = s.queue ∧
    (s.fallBack).groups = s.groups ∧ (s.fallBack).ready = s.ready ∧ (s.fallBack).heldList = s.heldList ∧
    (s.fallBack).engine = s.engine ∧ (s.fallBack).arbiter = s.arbiter ∧ (s.fallBack).link.carrier = s.link.carrier ∧
    (s.fallBack).link.carrierTimer = s.link.carrierTimer ∧ (s.fallBack).link.inFrame = s.link.inFrame ∧
    (s.fallBack).link.history = s.link.history ∧ (s.fallBack).link.lastError = s.link.lastError ∧
    (s.fallBack).link.station = s.link.station ∧ (s.fallBack).link.localChannel = s.link.localChannel ∧
    (s.fallBack).link.localProfile = s.link.localProfile ∧ (s.fallBack).time.source = s.time.source ∧
    (s.fallBack).time.tickFrom = s.time.tickFrom ∧ (s.fallBack).time.counter = s.time.counter ∧
    (s.fallBack).time.generation = s.time.generation ∧ (s.fallBack).time.lastEpoch = s.time.lastEpoch ∧
    (s.fallBack).inhibit = s.inhibit ∧ (s.fallBack).report.mask = s.report.mask ∧
    (s.fallBack).report.completions = s.report.completions ∧ (s.fallBack).report.events = s.report.events ∧
    (s.fallBack).report.refusal = s.report.refusal ∧ (s.fallBack).mgmt = s.mgmt ∧ (s.fallBack).pins = s.pins ∧
    (s.fallBack).pending = s.pending ∧ (s.fallBack).clocks = s.clocks := by
  simp only [State.fallBack]; simp

@[simp] theorem State.handResponse_keeps (s : State) (source : PortSource) (o : Outstanding) (r : MemResponse) :
    (s.handResponse source o r).decoder = s.decoder ∧ (s.handResponse source o r).queue.holdLimit = s.queue.holdLimit ∧
    (s.handResponse source o r).arbiter = s.arbiter ∧ (s.handResponse source o r).link = s.link ∧
    (s.handResponse source o r).time = s.time ∧ (s.handResponse source o r).inhibit = s.inhibit ∧
    (s.handResponse source o r).report.mask = s.report.mask ∧
    (s.handResponse source o r).report.events = s.report.events ∧ (s.handResponse source o r).mgmt = s.mgmt ∧
    (s.handResponse source o r).pins = s.pins ∧ (s.handResponse source o r).pending = s.pending ∧
    (s.handResponse source o r).clocks = s.clocks := by
  simp only [State.handResponse]; (repeat' split) <;> simp

@[simp] theorem State.handResponse_config (s : State) (source : PortSource) (o : Outstanding) (r : MemResponse) (h : GroupId) :
    (s.handResponse source o r).groups[h.val].config = s.groups[h.val].config := by
  simp only [State.handResponse]; (repeat' split) <;> simp

@[simp] theorem State.handTimeout_keeps (s : State) (source : PortSource) (o : Outstanding) :
    (s.handTimeout source o).decoder = s.decoder ∧ (s.handTimeout source o).queue.holdLimit = s.queue.holdLimit ∧
    (s.handTimeout source o).arbiter = s.arbiter ∧ (s.handTimeout source o).link = s.link ∧
    (s.handTimeout source o).time = s.time ∧ (s.handTimeout source o).inhibit = s.inhibit ∧
    (s.handTimeout source o).report.mask = s.report.mask ∧ (s.handTimeout source o).report.events = s.report.events ∧
    (s.handTimeout source o).mgmt = s.mgmt ∧ (s.handTimeout source o).pins = s.pins ∧
    (s.handTimeout source o).pending = s.pending ∧ (s.handTimeout source o).clocks = s.clocks := by
  simp only [State.handTimeout]; (repeat' split) <;> simp

@[simp] theorem State.handTimeout_config (s : State) (source : PortSource) (o : Outstanding) (h : GroupId) :
    (s.handTimeout source o).groups[h.val].config = s.groups[h.val].config := by
  simp only [State.handTimeout]; (repeat' split) <;> simp

@[simp] theorem State.dispatch_keeps (s : State) (source : Origin) (a : FrameAction) :
    (s.dispatch source a).decoder = s.decoder ∧ (s.dispatch source a).queue.holdLimit = s.queue.holdLimit ∧
    (s.dispatch source a).arbiter.burstLimit = s.arbiter.burstLimit ∧
    (s.dispatch source a).arbiter.dTimeout = s.arbiter.dTimeout ∧ (s.dispatch source a).link = s.link ∧
    (s.dispatch source a).time.source = s.time.source ∧ (s.dispatch source a).time.supplier = s.time.supplier ∧
    (s.dispatch source a).time.tickFrom = s.time.tickFrom ∧ (s.dispatch source a).time.holdover = s.time.holdover ∧
    (s.dispatch source a).inhibit.onLinkLoss = s.inhibit.onLinkLoss ∧ (s.dispatch source a).report.mask = s.report.mask ∧
    (s.dispatch source a).report.refusal = s.report.refusal ∧ (s.dispatch source a).mgmt = s.mgmt ∧
    (s.dispatch source a).pins = s.pins ∧ (s.dispatch source a).pending = s.pending ∧
    (s.dispatch source a).clocks = s.clocks := by
  simp only [State.dispatch]; (repeat' split) <;> simp

@[simp] theorem State.dispatch_config (s : State) (source : Origin) (a : FrameAction) (h : GroupId) :
    (s.dispatch source a).groups[h.val].config = s.groups[h.val].config := by
  simp only [State.dispatch]; (repeat' split) <;> simp

@[simp] theorem State.frameBad_keeps (s : State) :
    (s.frameBad).decoder = s.decoder ∧ (s.frameBad).upstream = s.upstream ∧ (s.frameBad).queue = s.queue ∧
    (s.frameBad).groups = s.groups ∧ (s.frameBad).ready = s.ready ∧ (s.frameBad).heldList = s.heldList ∧
    (s.frameBad).engine = s.engine ∧ (s.frameBad).arbiter = s.arbiter ∧ (s.frameBad).link.carrier = s.link.carrier ∧
    (s.frameBad).link.carrierTimer = s.link.carrierTimer ∧ (s.frameBad).link.inFrame = s.link.inFrame ∧
    (s.frameBad).link.station = s.link.station ∧ (s.frameBad).link.localChannel = s.link.localChannel ∧
    (s.frameBad).link.localProfile = s.link.localProfile ∧ (s.frameBad).time.source = s.time.source ∧
    (s.frameBad).time.tickFrom = s.time.tickFrom ∧ (s.frameBad).time.counter = s.time.counter ∧
    (s.frameBad).time.generation = s.time.generation ∧ (s.frameBad).time.lastEpoch = s.time.lastEpoch ∧
    (s.frameBad).inhibit = s.inhibit ∧ (s.frameBad).report.mask = s.report.mask ∧
    (s.frameBad).report.completions = s.report.completions ∧ (s.frameBad).report.events = s.report.events ∧
    (s.frameBad).report.refusal = s.report.refusal ∧ (s.frameBad).mgmt = s.mgmt ∧ (s.frameBad).pins = s.pins ∧
    (s.frameBad).pending = s.pending ∧ (s.frameBad).clocks = s.clocks := by
  simp only [State.frameBad]; (repeat' split) <;> simp

@[simp] theorem State.frameAcquiring_keeps (s : State) (good : Bool) :
    (s.frameAcquiring good).decoder = s.decoder ∧ (s.frameAcquiring good).upstream.response = s.upstream.response ∧
    (s.frameAcquiring good).queue = s.queue ∧ (s.frameAcquiring good).engine.tally = s.engine.tally ∧
    (s.frameAcquiring good).arbiter.burstLimit = s.arbiter.burstLimit ∧
    (s.frameAcquiring good).arbiter.dTimeout = s.arbiter.dTimeout ∧
    (s.frameAcquiring good).link.carrier = s.link.carrier ∧
    (s.frameAcquiring good).link.carrierTimer = s.link.carrierTimer ∧
    (s.frameAcquiring good).link.inFrame = s.link.inFrame ∧ (s.frameAcquiring good).link.station = s.link.station ∧
    (s.frameAcquiring good).link.localChannel = s.link.localChannel ∧
    (s.frameAcquiring good).link.localProfile = s.link.localProfile ∧
    (s.frameAcquiring good).time.source = s.time.source ∧ (s.frameAcquiring good).time.tickFrom = s.time.tickFrom ∧
    (s.frameAcquiring good).time.counter = s.time.counter ∧ (s.frameAcquiring good).time.generation = s.time.generation ∧
    (s.frameAcquiring good).time.lastEpoch = s.time.lastEpoch ∧
    (s.frameAcquiring good).inhibit.onLinkLoss = s.inhibit.onLinkLoss ∧
    (s.frameAcquiring good).report.mask = s.report.mask ∧
    (s.frameAcquiring good).report.completions = s.report.completions ∧
    (s.frameAcquiring good).report.events = s.report.events ∧ (s.frameAcquiring good).report.refusal = s.report.refusal ∧
    (s.frameAcquiring good).mgmt = s.mgmt ∧ (s.frameAcquiring good).pins = s.pins ∧
    (s.frameAcquiring good).pending = s.pending ∧ (s.frameAcquiring good).clocks = s.clocks := by
  simp only [State.frameAcquiring]; (repeat' split) <;> simp

@[simp] theorem State.frameAcquiring_config (s : State) (good : Bool) (h : GroupId) :
    (s.frameAcquiring good).groups[h.val].config = s.groups[h.val].config := by
  simp only [State.frameAcquiring]; (repeat' split) <;> simp

@[simp] theorem State.takeCarrierLoss_keeps (s : State) :
    (s.takeCarrierLoss).decoder = s.decoder ∧ (s.takeCarrierLoss).upstream.response = s.upstream.response ∧
    (s.takeCarrierLoss).queue = s.queue ∧ (s.takeCarrierLoss).engine.tally = s.engine.tally ∧
    (s.takeCarrierLoss).arbiter.burstLimit = s.arbiter.burstLimit ∧
    (s.takeCarrierLoss).arbiter.dTimeout = s.arbiter.dTimeout ∧ (s.takeCarrierLoss).link.lastError = s.link.lastError ∧
    (s.takeCarrierLoss).link.station = s.link.station ∧ (s.takeCarrierLoss).link.localChannel = s.link.localChannel ∧
    (s.takeCarrierLoss).link.localProfile = s.link.localProfile ∧ (s.takeCarrierLoss).time.source = s.time.source ∧
    (s.takeCarrierLoss).time.tickFrom = s.time.tickFrom ∧ (s.takeCarrierLoss).time.counter = s.time.counter ∧
    (s.takeCarrierLoss).time.generation = s.time.generation ∧ (s.takeCarrierLoss).time.lastEpoch = s.time.lastEpoch ∧
    (s.takeCarrierLoss).inhibit.onLinkLoss = s.inhibit.onLinkLoss ∧ (s.takeCarrierLoss).report.mask = s.report.mask ∧
    (s.takeCarrierLoss).report.completions = s.report.completions ∧ (s.takeCarrierLoss).report.events = s.report.events ∧
    (s.takeCarrierLoss).report.refusal = s.report.refusal ∧ (s.takeCarrierLoss).mgmt = s.mgmt ∧
    (s.takeCarrierLoss).pins = s.pins ∧ (s.takeCarrierLoss).pending = s.pending ∧ (s.takeCarrierLoss).clocks = s.clocks := by
  simp only [State.takeCarrierLoss]; (repeat' split) <;> simp

@[simp] theorem State.takeCarrierLoss_config (s : State) (h : GroupId) :
    (s.takeCarrierLoss).groups[h.val].config = s.groups[h.val].config := by
  simp only [State.takeCarrierLoss]; (repeat' split) <;> simp

@[simp] theorem State.takeResponse_keeps (s : State) (r : MemResponse) :
    (s.takeResponse r).decoder = s.decoder ∧ (s.takeResponse r).queue.holdLimit = s.queue.holdLimit ∧
    (s.takeResponse r).arbiter.burstLimit = s.arbiter.burstLimit ∧
    (s.takeResponse r).arbiter.dTimeout = s.arbiter.dTimeout ∧ (s.takeResponse r).link = s.link ∧
    (s.takeResponse r).time = s.time ∧ (s.takeResponse r).inhibit = s.inhibit ∧
    (s.takeResponse r).report.mask = s.report.mask ∧ (s.takeResponse r).report.events = s.report.events ∧
    (s.takeResponse r).mgmt = s.mgmt ∧ (s.takeResponse r).pins = s.pins ∧ (s.takeResponse r).pending = s.pending ∧
    (s.takeResponse r).clocks = s.clocks := by
  simp only [State.takeResponse]; (repeat' split) <;> simp

@[simp] theorem State.takeResponse_config (s : State) (r : MemResponse) (h : GroupId) :
    (s.takeResponse r).groups[h.val].config = s.groups[h.val].config := by
  unfold State.takeResponse; (repeat' split) <;> simp

@[simp] theorem State.takeTimeout_keeps (s : State) :
    (s.takeTimeout).decoder = s.decoder ∧ (s.takeTimeout).queue.holdLimit = s.queue.holdLimit ∧
    (s.takeTimeout).arbiter.burstLimit = s.arbiter.burstLimit ∧ (s.takeTimeout).arbiter.dTimeout = s.arbiter.dTimeout ∧
    (s.takeTimeout).link = s.link ∧ (s.takeTimeout).time = s.time ∧ (s.takeTimeout).inhibit = s.inhibit ∧
    (s.takeTimeout).report.mask = s.report.mask ∧ (s.takeTimeout).report.events = s.report.events ∧
    (s.takeTimeout).mgmt = s.mgmt ∧ (s.takeTimeout).pins = s.pins ∧ (s.takeTimeout).pending = s.pending ∧
    (s.takeTimeout).clocks = s.clocks := by
  simp only [State.takeTimeout]; (repeat' split) <;> simp

@[simp] theorem State.takeTimeout_config (s : State) (h : GroupId) :
    (s.takeTimeout).groups[h.val].config = s.groups[h.val].config := by
  unfold State.takeTimeout; (repeat' split) <;> simp

@[simp] theorem State.takeRecovery_keeps (s : State) :
    (s.takeRecovery).decoder = s.decoder ∧ (s.takeRecovery).upstream.response = s.upstream.response ∧
    (s.takeRecovery).queue = s.queue ∧ (s.takeRecovery).heldList = s.heldList ∧
    (s.takeRecovery).engine.tally = s.engine.tally ∧ (s.takeRecovery).arbiter.burstLimit = s.arbiter.burstLimit ∧
    (s.takeRecovery).arbiter.dTimeout = s.arbiter.dTimeout ∧ (s.takeRecovery).link = s.link ∧
    (s.takeRecovery).time = s.time ∧ (s.takeRecovery).inhibit = s.inhibit ∧ (s.takeRecovery).report = s.report ∧
    (s.takeRecovery).mgmt = s.mgmt ∧ (s.takeRecovery).pins = s.pins ∧ (s.takeRecovery).pending = s.pending ∧
    (s.takeRecovery).clocks = s.clocks := by
  simp only [State.takeRecovery]; (repeat' split) <;> simp

@[simp] theorem State.takeRecovery_config (s : State) (h : GroupId) :
    (s.takeRecovery).groups[h.val].config = s.groups[h.val].config := by
  unfold State.takeRecovery; (repeat' split) <;> simp

@[simp] theorem State.formatAndDispatch_keeps (s : State) (f : FrameFields) :
    (s.formatAndDispatch f).decoder = s.decoder ∧ (s.formatAndDispatch f).queue.holdLimit = s.queue.holdLimit ∧
    (s.formatAndDispatch f).arbiter.burstLimit = s.arbiter.burstLimit ∧
    (s.formatAndDispatch f).arbiter.dTimeout = s.arbiter.dTimeout ∧ (s.formatAndDispatch f).link.state = s.link.state ∧
    (s.formatAndDispatch f).link.carrier = s.link.carrier ∧
    (s.formatAndDispatch f).link.carrierTimer = s.link.carrierTimer ∧
    (s.formatAndDispatch f).link.inFrame = s.link.inFrame ∧ (s.formatAndDispatch f).link.acquired = s.link.acquired ∧
    (s.formatAndDispatch f).link.history = s.link.history ∧ (s.formatAndDispatch f).link.expected = s.link.expected ∧
    (s.formatAndDispatch f).link.station = s.link.station ∧
    (s.formatAndDispatch f).link.localChannel = s.link.localChannel ∧
    (s.formatAndDispatch f).link.localProfile = s.link.localProfile ∧
    (s.formatAndDispatch f).time.source = s.time.source ∧ (s.formatAndDispatch f).time.supplier = s.time.supplier ∧
    (s.formatAndDispatch f).time.tickFrom = s.time.tickFrom ∧ (s.formatAndDispatch f).time.holdover = s.time.holdover ∧
    (s.formatAndDispatch f).inhibit.onLinkLoss = s.inhibit.onLinkLoss ∧
    (s.formatAndDispatch f).report.mask = s.report.mask ∧ (s.formatAndDispatch f).report.refusal = s.report.refusal ∧
    (s.formatAndDispatch f).mgmt = s.mgmt ∧ (s.formatAndDispatch f).pins = s.pins ∧
    (s.formatAndDispatch f).pending = s.pending ∧ (s.formatAndDispatch f).clocks = s.clocks := by
  simp only [State.formatAndDispatch]; (repeat' split) <;> simp

@[simp] theorem State.formatAndDispatch_config (s : State) (f : FrameFields) (h : GroupId) :
    (s.formatAndDispatch f).groups[h.val].config = s.groups[h.val].config := by
  unfold State.formatAndDispatch; (repeat' split) <;> simp

@[simp] theorem State.takeDueExpiries_keeps (s : State) :
    (s.takeDueExpiries).decoder = s.decoder ∧ (s.takeDueExpiries).queue.holdLimit = s.queue.holdLimit ∧
    (s.takeDueExpiries).arbiter.burstLimit = s.arbiter.burstLimit ∧
    (s.takeDueExpiries).arbiter.dTimeout = s.arbiter.dTimeout ∧ (s.takeDueExpiries).link.lastError = s.link.lastError ∧
    (s.takeDueExpiries).link.station = s.link.station ∧ (s.takeDueExpiries).link.localChannel = s.link.localChannel ∧
    (s.takeDueExpiries).link.localProfile = s.link.localProfile ∧ (s.takeDueExpiries).time.source = s.time.source ∧
    (s.takeDueExpiries).time.tickFrom = s.time.tickFrom ∧ (s.takeDueExpiries).time.counter = s.time.counter ∧
    (s.takeDueExpiries).time.generation = s.time.generation ∧ (s.takeDueExpiries).time.lastEpoch = s.time.lastEpoch ∧
    (s.takeDueExpiries).inhibit.onLinkLoss = s.inhibit.onLinkLoss ∧ (s.takeDueExpiries).report.mask = s.report.mask ∧
    (s.takeDueExpiries).report.events = s.report.events ∧ (s.takeDueExpiries).mgmt = s.mgmt ∧
    (s.takeDueExpiries).pins = s.pins ∧ (s.takeDueExpiries).pending = s.pending ∧ (s.takeDueExpiries).clocks = s.clocks := by
  refine ⟨?_, ?_, ?_, ?_, ?_, ?_, ?_, ?_, ?_, ?_, ?_, ?_, ?_, ?_, ?_, ?_, ?_, ?_, ?_, ?_⟩
  · have k := fun s => foldl_keeps (fun s : State => s.decoder) State.takeGroupExpiry (fun s g => by simp) groupIds s; simp only [State.takeDueExpiries]; simp [k]
  · have k := fun s => foldl_keeps (fun s : State => s.queue.holdLimit) State.takeGroupExpiry (fun s g => by simp) groupIds s; simp only [State.takeDueExpiries]; simp [k]
  · have k := fun s => foldl_keeps (fun s : State => s.arbiter.burstLimit) State.takeGroupExpiry (fun s g => by simp) groupIds s; simp only [State.takeDueExpiries]; simp [k]
  · have k := fun s => foldl_keeps (fun s : State => s.arbiter.dTimeout) State.takeGroupExpiry (fun s g => by simp) groupIds s; simp only [State.takeDueExpiries]; simp [k]
  · have k := fun s => foldl_keeps (fun s : State => s.link.lastError) State.takeGroupExpiry (fun s g => by simp) groupIds s; simp only [State.takeDueExpiries]; simp [k]
  · have k := fun s => foldl_keeps (fun s : State => s.link.station) State.takeGroupExpiry (fun s g => by simp) groupIds s; simp only [State.takeDueExpiries]; simp [k]
  · have k := fun s => foldl_keeps (fun s : State => s.link.localChannel) State.takeGroupExpiry (fun s g => by simp) groupIds s; simp only [State.takeDueExpiries]; simp [k]
  · have k := fun s => foldl_keeps (fun s : State => s.link.localProfile) State.takeGroupExpiry (fun s g => by simp) groupIds s; simp only [State.takeDueExpiries]; simp [k]
  · have k := fun s => foldl_keeps (fun s : State => s.time.source) State.takeGroupExpiry (fun s g => by simp) groupIds s; simp only [State.takeDueExpiries]; simp [k]
  · have k := fun s => foldl_keeps (fun s : State => s.time.tickFrom) State.takeGroupExpiry (fun s g => by simp) groupIds s; simp only [State.takeDueExpiries]; simp [k]
  · have k := fun s => foldl_keeps (fun s : State => s.time.counter) State.takeGroupExpiry (fun s g => by simp) groupIds s; simp only [State.takeDueExpiries]; simp [k]
  · have k := fun s => foldl_keeps (fun s : State => s.time.generation) State.takeGroupExpiry (fun s g => by simp) groupIds s; simp only [State.takeDueExpiries]; simp [k]
  · have k := fun s => foldl_keeps (fun s : State => s.time.lastEpoch) State.takeGroupExpiry (fun s g => by simp) groupIds s; simp only [State.takeDueExpiries]; simp [k]
  · have k := fun s => foldl_keeps (fun s : State => s.inhibit.onLinkLoss) State.takeGroupExpiry (fun s g => by simp) groupIds s; simp only [State.takeDueExpiries]; simp [k]
  · have k := fun s => foldl_keeps (fun s : State => s.report.mask) State.takeGroupExpiry (fun s g => by simp) groupIds s; simp only [State.takeDueExpiries]; simp [k]
  · have k := fun s => foldl_keeps (fun s : State => s.report.events) State.takeGroupExpiry (fun s g => by simp) groupIds s; simp only [State.takeDueExpiries]; simp [k]
  · have k := fun s => foldl_keeps (fun s : State => s.mgmt) State.takeGroupExpiry (fun s g => by simp) groupIds s; simp only [State.takeDueExpiries]; simp [k]
  · have k := fun s => foldl_keeps (fun s : State => s.pins) State.takeGroupExpiry (fun s g => by simp) groupIds s; simp only [State.takeDueExpiries]; simp [k]
  · have k := fun s => foldl_keeps (fun s : State => s.pending) State.takeGroupExpiry (fun s g => by simp) groupIds s; simp only [State.takeDueExpiries]; simp [k]
  · have k := fun s => foldl_keeps (fun s : State => s.clocks) State.takeGroupExpiry (fun s g => by simp) groupIds s; simp only [State.takeDueExpiries]; simp [k]

@[simp] theorem State.takeDueExpiries_config (s : State) (h : GroupId) :
    (s.takeDueExpiries).groups[h.val].config = s.groups[h.val].config := by
  have k := fun s => foldl_keeps (fun s : State => s.groups[h.val].config) State.takeGroupExpiry (fun s g => by simp) groupIds s; simp only [State.takeDueExpiries]; simp [k]

@[simp] theorem State.frameGood_keeps (s : State) (f : FrameFields) :
    (s.frameGood f).decoder = s.decoder ∧ (s.frameGood f).queue.holdLimit = s.queue.holdLimit ∧
    (s.frameGood f).arbiter.burstLimit = s.arbiter.burstLimit ∧ (s.frameGood f).arbiter.dTimeout = s.arbiter.dTimeout ∧
    (s.frameGood f).link.state = s.link.state ∧ (s.frameGood f).link.carrier = s.link.carrier ∧
    (s.frameGood f).link.carrierTimer = s.link.carrierTimer ∧ (s.frameGood f).link.inFrame = s.link.inFrame ∧
    (s.frameGood f).link.acquired = s.link.acquired ∧ (s.frameGood f).link.station = s.link.station ∧
    (s.frameGood f).link.localChannel = s.link.localChannel ∧ (s.frameGood f).link.localProfile = s.link.localProfile ∧
    (s.frameGood f).time.source = s.time.source ∧ (s.frameGood f).time.supplier = s.time.supplier ∧
    (s.frameGood f).time.tickFrom = s.time.tickFrom ∧ (s.frameGood f).time.holdover = s.time.holdover ∧
    (s.frameGood f).inhibit.onLinkLoss = s.inhibit.onLinkLoss ∧ (s.frameGood f).report.mask = s.report.mask ∧
    (s.frameGood f).report.refusal = s.report.refusal ∧ (s.frameGood f).mgmt = s.mgmt ∧ (s.frameGood f).pins = s.pins ∧
    (s.frameGood f).pending = s.pending ∧ (s.frameGood f).clocks = s.clocks := by
  simp only [State.frameGood]; (repeat' split) <;> simp

@[simp] theorem State.frameGood_config (s : State) (f : FrameFields) (h : GroupId) :
    (s.frameGood f).groups[h.val].config = s.groups[h.val].config := by
  simp only [State.frameGood]; (repeat' split) <;> simp

@[simp] theorem State.settleFrame_keeps (s : State) (f : LinkFrame) :
    (s.settleFrame f).decoder = s.decoder ∧ (s.settleFrame f).queue.holdLimit = s.queue.holdLimit ∧
    (s.settleFrame f).arbiter.burstLimit = s.arbiter.burstLimit ∧
    (s.settleFrame f).arbiter.dTimeout = s.arbiter.dTimeout ∧ (s.settleFrame f).link.carrier = s.link.carrier ∧
    (s.settleFrame f).link.carrierTimer = s.link.carrierTimer ∧ (s.settleFrame f).link.inFrame = s.link.inFrame ∧
    (s.settleFrame f).link.station = s.link.station ∧ (s.settleFrame f).link.localChannel = s.link.localChannel ∧
    (s.settleFrame f).link.localProfile = s.link.localProfile ∧ (s.settleFrame f).time.source = s.time.source ∧
    (s.settleFrame f).time.tickFrom = s.time.tickFrom ∧ (s.settleFrame f).inhibit.onLinkLoss = s.inhibit.onLinkLoss ∧
    (s.settleFrame f).report.mask = s.report.mask ∧ (s.settleFrame f).report.refusal = s.report.refusal ∧
    (s.settleFrame f).mgmt = s.mgmt ∧ (s.settleFrame f).pins = s.pins ∧ (s.settleFrame f).pending = s.pending ∧
    (s.settleFrame f).clocks = s.clocks := by
  simp only [State.settleFrame]; (repeat' split) <;> simp

@[simp] theorem State.settleFrame_config (s : State) (f : LinkFrame) (h : GroupId) :
    (s.settleFrame f).groups[h.val].config = s.groups[h.val].config := by
  unfold State.settleFrame; (repeat' split) <;> simp

@[simp] theorem State.receiveFrame_keeps (s : State) (f : LinkFrame) :
    (s.receiveFrame f).decoder = s.decoder ∧ (s.receiveFrame f).queue.holdLimit = s.queue.holdLimit ∧
    (s.receiveFrame f).arbiter.burstLimit = s.arbiter.burstLimit ∧
    (s.receiveFrame f).arbiter.dTimeout = s.arbiter.dTimeout ∧ (s.receiveFrame f).link.carrier = s.link.carrier ∧
    (s.receiveFrame f).link.carrierTimer = s.link.carrierTimer ∧ (s.receiveFrame f).link.station = s.link.station ∧
    (s.receiveFrame f).link.localChannel = s.link.localChannel ∧
    (s.receiveFrame f).link.localProfile = s.link.localProfile ∧ (s.receiveFrame f).time.source = s.time.source ∧
    (s.receiveFrame f).time.tickFrom = s.time.tickFrom ∧ (s.receiveFrame f).inhibit.onLinkLoss = s.inhibit.onLinkLoss ∧
    (s.receiveFrame f).report.mask = s.report.mask ∧ (s.receiveFrame f).report.refusal = s.report.refusal ∧
    (s.receiveFrame f).mgmt = s.mgmt ∧ (s.receiveFrame f).pins = s.pins ∧ (s.receiveFrame f).pending = s.pending ∧
    (s.receiveFrame f).clocks = s.clocks := by
  simp only [State.receiveFrame]; (repeat' split) <;> simp

@[simp] theorem State.receiveFrame_config (s : State) (f : LinkFrame) (h : GroupId) :
    (s.receiveFrame f).groups[h.val].config = s.groups[h.val].config := by
  simp only [State.receiveFrame]; (repeat' split) <;> simp

end Sys2Proof.Machine
end

