-- ==== Sys2Proof/Laws/Ops.lean ====
section
/-! SUPPORT. What each shared operation answers, case by case: proofs cite these and do not unfold the operation. -/

namespace Sys2Proof.Machine

/-! ### Management messages -/

/-- In COMMAND a message is settled: what it does, and the reply. -/
theorem State.settle_command (s : State) (i : Instr) (act : State → State × Reply) (h : s.mgmt.phase = .command) :
    s.settle i act =
      { (act s).1 with
        mgmt := { (act s).1.mgmt with
          phase := .response, command := i.message, bitsIn := [], response := some (act s).2, sent := 0 } } := by
  simp [State.settle, h]

/-- Outside COMMAND no message is settled. -/
theorem State.settle_other (s : State) (i : Instr) (act : State → State × Reply) (h : s.mgmt.phase ≠ .command) :
    s.settle i act = s := by
  unfold State.settle; split <;> simp_all

@[simp] theorem State.withArg_some {α : Type} (s : State) (a : α) (act : α → State × Reply) :
    s.withArg (some a) act = act a := rfl

@[simp] theorem State.withArg_none {α : Type} (s : State) (act : α → State × Reply) :
    s.withArg none act = (s, .bare .badArgument) := rfl

/-! ### Report unit -/

/-- A completion record joins a queue with a place. -/
theorem State.postCompletion_room (s : State) (c : Completion) (h : s.report.completions.length < 32) :
    s.postCompletion c =
      { s with report := { s.report with
          causes := s.report.causes ||| Cause.releaseDone.set, completions := s.report.completions ++ [c] } } := by
  simp [State.postCompletion, State.raise, Config.completionPlaces, h]

/-- A completion record that finds no place is lost. -/
theorem State.postCompletion_full (s : State) (c : Completion) (h : 32 ≤ s.report.completions.length) :
    s.postCompletion c = (s.raise .releaseDone).raise .completionOverrun := by
  simp [State.postCompletion, State.raise, Config.completionPlaces, Nat.not_lt.2 h]

/-- An event record joins a queue with a place. -/
theorem State.postEvent_room (s : State) (e : EventRecord) (h : s.report.events.length < 16) :
    s.postEvent e =
      { s with report := { s.report with
          causes := s.report.causes ||| Cause.eventReceived.set, events := s.report.events ++ [e] } } := by
  simp [State.postEvent, State.raise, Config.eventPlaces, h]

/-- An event record that finds no place is lost. -/
theorem State.postEvent_full (s : State) (e : EventRecord) (h : 16 ≤ s.report.events.length) :
    s.postEvent e = s.raise .eventOverrun := by
  simp [State.postEvent, Config.eventPlaces, Nat.not_lt.2 h]

/-! ### Staging queue -/

/-- No write is held: the test finds nothing to do. -/
theorem State.holdTest_none (s : State) (h : s.queue.held = none) : s.holdTest = s := by
  simp [State.holdTest, h]

/-- A write is held and space exists: it is appended. -/
theorem State.holdTest_space (s : State) (w : StagedWrite) (h : s.queue.held = some w) (hs : s.spaceFor w.group = true) :
    s.holdTest = s.endHold.append w := by
  simp [State.holdTest, h, hs]

/-- A write is held and no space exists: the hold goes on. -/
theorem State.holdTest_full (s : State) (w : StagedWrite) (h : s.queue.held = some w) (hs : s.spaceFor w.group = false) :
    s.holdTest = s := by
  simp [State.holdTest, h, hs]

/-- The first element with p is replaced, and those before it are kept. -/
theorem updateFirst_append {α : Type} (p : α → Bool) (f : α → α) (l : List α) (a : α) (r : List α) (ha : p a = true)
    (hl : ∀ x ∈ l, p x = false) : updateFirst p f (l ++ a :: r) = some (l ++ f a :: r) := by
  induction l with
  | nil => simp [updateFirst, ha]
  | cons x l ih =>
    simp only [List.mem_cons, forall_eq_or_imp] at hl
    simp [updateFirst, hl.1, ih hl.2]

/-- Where no element has p nothing is replaced. -/
theorem updateFirst_none {α : Type} (p : α → Bool) (f : α → α) (l : List α) (hl : ∀ x ∈ l, p x = false) :
    updateFirst p f l = none := by
  induction l with
  | nil => rfl
  | cons x l ih =>
    simp only [List.mem_cons, forall_eq_or_imp] at hl
    simp [updateFirst, hl.1, ih hl.2]

/-- A replaced list has the length it had. -/
theorem updateFirst_length {α : Type} (p : α → Bool) (f : α → α) (l m : List α) (h : updateFirst p f l = some m) :
    m.length = l.length := by
  induction l generalizing m with
  | nil => simp [updateFirst] at h
  | cons x l ih =>
    simp only [updateFirst] at h
    split at h
    · cases h; rfl
    · cases hu : updateFirst p f l with
      | none => simp [hu] at h
      | some n => simp only [hu, Option.map_some, Option.some.injEq] at h; subst h; simp [ih n hu]

/-! ### Group lists -/

/-- Under inhibit a group that would be READY is HELD. -/
theorem State.toReady_inhibited (s : State) (g : GroupId) (h : s.inhibited = true) :
    s.toReady g = { s.updGroup g (Group.enter .held) with heldList := s.heldList ++ [g] } := by
  simp [State.toReady, h]

/-- With inhibit clear a group goes to READY. -/
theorem State.toReady_clear (s : State) (g : GroupId) (h : s.inhibited = false) :
    s.toReady g = { s.updGroup g (Group.enter .ready) with ready := s.ready ++ [g] } := by
  simp [State.toReady, h]

/-! ### Engine and arbiter -/

/-- An idle engine takes the head of the ready list. -/
theorem State.takeHead_taken (s : State) (g : GroupId) (rest : List GroupId) (h : s.engine.phase = .idle)
    (hr : s.ready = g :: rest) :
    s.takeHead = { (s.updGroup g (Group.take s.now)).setPhase (.running g false .waiting) with ready := rest } := by
  simp [State.takeHead, h, hr]

/-- An engine that is not idle takes nothing. -/
theorem State.takeHead_busy (s : State) (h : s.engine.phase ≠ .idle) : s.takeHead = s := by
  unfold State.takeHead; split <;> simp_all

/-- From an empty ready list nothing is taken. -/
theorem State.takeHead_empty (s : State) (h : s.ready = []) : s.takeHead = s := by
  unfold State.takeHead; split <;> simp_all

/-- At a port that is not FREE nothing is granted. -/
theorem State.arbitrate_closed (s : State) (h : s.arbiter.port ≠ .free) : s.arbitrate = s := by
  unfold State.arbitrate; split <;> simp_all

/-- With no request nothing is granted. -/
theorem State.arbitrate_quiet (s : State) (he : s.engineWaiting = false) (hh : s.hostWaiting = false) : s.arbitrate = s := by
  unfold State.arbitrate; split <;> simp [State.hostPreferred, he, hh]

/-- A host request alone is granted. -/
theorem State.arbitrate_host (s : State) (h : s.arbiter.port = .free) (he : s.engineWaiting = false)
    (hh : s.hostWaiting = true) : s.arbitrate = s.grantHost := by
  simp [State.arbitrate, h, he, hh]

/-- An engine request alone is granted. -/
theorem State.arbitrate_engine (s : State) (h : s.arbiter.port = .free) (he : s.engineWaiting = true)
    (hh : s.hostWaiting = false) : s.arbitrate = s.grantEngine := by
  simp [State.arbitrate, h, he, hh, State.hostPreferred]

/-- With both requests the burst count decides. -/
theorem State.arbitrate_both (s : State) (h : s.arbiter.port = .free) (he : s.engineWaiting = true)
    (hh : s.hostWaiting = true) :
    s.arbitrate =
      if 1 ≤ s.arbiter.burstLimit ∧ s.arbiter.burstLimit ≤ s.arbiter.burst then s.grantHost else s.grantEngine := by
  by_cases h1 : 1 ≤ s.arbiter.burstLimit <;> by_cases h2 : s.arbiter.burstLimit ≤ s.arbiter.burst <;>
    simp [State.arbitrate, h, he, hh, State.hostPreferred, h1, h2]

/-- Nothing follows an event that leaves a closed port and no group to take. -/
theorem State.work_closed (s : State) (hp : s.arbiter.port ≠ .free) (hr : s.engine.phase = .idle → s.ready = []) :
    s.work = s := by
  have ht : s.takeHead = s := by
    by_cases h : s.engine.phase = .idle
    · exact s.takeHead_empty (hr h)
    · exact s.takeHead_busy h
  rw [State.work, ht, s.arbitrate_closed hp]

/-- Nothing follows an event that leaves no request and no group to take. -/
theorem State.work_quiet (s : State) (he : s.engineWaiting = false) (hh : s.hostWaiting = false)
    (hr : s.engine.phase = .idle → s.ready = []) : s.work = s := by
  have ht : s.takeHead = s := by
    by_cases h : s.engine.phase = .idle
    · exact s.takeHead_empty (hr h)
    · exact s.takeHead_busy h
  rw [State.work, ht, s.arbitrate_quiet he hh]

/-! ### Repetitions and batches -/

/-- A repetition end that ends the batch. -/
theorem State.endRepetition_over (s : State) (g : GroupId) (h : (s.updGroup g Group.countRepetition).groups[g.val].batchOver = true) :
    s.endRepetition g =
      (s.updGroup g Group.countRepetition).endBatch g (s.updGroup g Group.countRepetition).groups[g.val].endOutcome := by
  simp only [State.endRepetition, Fin.getElem_fin, h, if_true]

/-- A repetition end that does not end the batch. -/
theorem State.endRepetition_on (s : State) (g : GroupId) (h : (s.updGroup g Group.countRepetition).groups[g.val].batchOver = false) :
    s.endRepetition g = (s.updGroup g Group.countRepetition).continueBatch g := by
  simp only [State.endRepetition, Fin.getElem_fin, h, Bool.false_eq_true, if_false]

/-- A batch goes on in time. -/
theorem State.continueBatch_inTime (s : State) (g : GroupId) (h : s.groups[g.val].late = false) :
    s.continueBatch g = s.updGroup g (fun r => { r with position := 0, state := .interval }) := by
  simp [State.continueBatch, h]

/-- A batch goes on late. -/
theorem State.continueBatch_late (s : State) (g : GroupId) (h : s.groups[g.val].late = true) :
    s.continueBatch g = ((s.updGroup g (fun r => { r with position := 0, late := false })).raise .repeatLate).toReady g := by
  simp [State.continueBatch, h]

/-- Passing an entry of a ONCE batch removes it. -/
theorem State.passEntry_once (s : State) (g : GroupId) (h : s.groups[g.val].config.mode = .once) :
    s.passEntry g = (s.removeOldest g).updGroup g (fun r => { r with position := r.position + 1 }) := by
  simp [State.passEntry, h]

/-- Passing an entry of a REPEAT batch leaves it queued. -/
theorem State.passEntry_repeating (s : State) (g : GroupId) (h : s.groups[g.val].config.mode = .repeating) :
    s.passEntry g = s.updGroup g (fun r => { r with position := r.position + 1 }) := by
  simp [State.passEntry, h]

/-- Between entries the engine asks for the next one. -/
theorem State.betweenEntries_next (s : State) (g : GroupId) (hr : s.repetitionEnded g = false) (hi : s.inhibited = false) :
    s.betweenEntries g false = s.setPhase (.running g false .waiting) := by
  simp [State.betweenEntries, hr, hi]

/-- Between entries a group marked stopping ends its batch. -/
theorem State.betweenEntries_stopping (s : State) (g : GroupId) (hr : s.repetitionEnded g = false) :
    s.betweenEntries g true = (s.setPhase .idle).endBatch g .stopped := by
  simp [State.betweenEntries, hr]

/-- After the last entry the repetition ends. -/
theorem State.betweenEntries_over (s : State) (g : GroupId) (stopping : Bool) (hr : s.repetitionEnded g = true) :
    s.betweenEntries g stopping = ((s.setPhase .idle).endRepetition g).stopAfterRepetition g stopping := by
  simp [State.betweenEntries, hr]

/-! ### Inhibit -/

/-- A change of the sources that leaves effective inhibit as it was. -/
theorem State.changeSources_same (s : State) (i : InhibitSet) (h : s.inhibited = i.any) :
    s.changeSources i = s.setSources i := by
  have : (s.setSources i).inhibited = i.any := rfl
  simp [State.changeSources, this, h]

/-- A change of the sources that sets effective inhibit. -/
theorem State.changeSources_set (s : State) (i : InhibitSet) (h : s.inhibited = false) (hi : i.any = true) :
    s.changeSources i = ((s.setSources i).raise .inhibitChange).inhibitSet := by
  have : (s.setSources i).inhibited = i.any := rfl
  simp [State.changeSources, this, h, hi]

/-- A change of the sources that clears effective inhibit. -/
theorem State.changeSources_clear (s : State) (i : InhibitSet) (h : s.inhibited = true) (hi : i.any = false) :
    s.changeSources i = ((s.setSources i).raise .inhibitChange).inhibitClear := by
  have : (s.setSources i).inhibited = i.any := rfl
  simp [State.changeSources, this, h, hi]

/-! ### Triggers -/

/-- A group that does not match a trigger does nothing with it. -/
theorem State.settleTrigger_other (s : State) (t : Trigger) (g : GroupId) (h : s.groups[g.val].config.matchesTrigger t = false) :
    State.settleTrigger t s g = s := by
  simp [State.settleTrigger, h]

/-- A matching group settles the trigger by its state. -/
theorem State.settleTrigger_match (s : State) (t : Trigger) (g : GroupId) (h : s.groups[g.val].config.matchesTrigger t = true) :
    State.settleTrigger t s g = s.settleMatch t g := by
  simp [State.settleTrigger, h]

/-- A group with a batch misses the trigger. -/
theorem State.settleMatch_busy (s : State) (t : Trigger) (g : GroupId) (hd : s.groups[g.val].state ≠ .disabled)
    (hc : s.groups[g.val].state ≠ .collecting) : s.settleMatch t g = s.missTrigger g .busy := by
  unfold State.settleMatch; split <;> simp_all

/-- A COLLECTING group that must be armed and is not misses the trigger. -/
theorem State.settleMatch_notArmed (s : State) (t : Trigger) (g : GroupId) (hc : s.groups[g.val].state = .collecting)
    (hr : s.groups[g.val].config.armRequired = true) (ha : s.groups[g.val].armed = false) :
    s.settleMatch t g = s.missTrigger g .notArmed := by
  simp [State.settleMatch, hc, hr, ha]

/-- Any other COLLECTING group takes it. -/
theorem State.settleMatch_takes (s : State) (t : Trigger) (g : GroupId) (hc : s.groups[g.val].state = .collecting)
    (h : s.groups[g.val].config.armRequired = true → s.groups[g.val].armed = true) : s.settleMatch t g = s.cutGroup g t := by
  cases hr : s.groups[g.val].config.armRequired <;> simp_all [State.settleMatch]

/-- A DISABLED group ignores it. -/
theorem State.settleMatch_disabled (s : State) (t : Trigger) (g : GroupId) (h : s.groups[g.val].state = .disabled) :
    s.settleMatch t g = s := by
  simp [State.settleMatch, h]

end Sys2Proof.Machine
end

