-- ==== Sys2Proof/Laws/Wire.lean ====
section
/-! SUPPORT. What a clock period of the management port can do, and when a message is complete: proofs cite these and do not unfold the
wire's operations. -/

namespace Sys2Proof

/-! ### When a message is complete -/

theorem ofOne_isSome (f : Byte → Instr) : ∀ args : List Byte, 1 = args.length → (ofOne f args).isSome = true
  | [_], _ => rfl

theorem ofTwo_isSome (f : Byte → Byte → Instr) : ∀ args : List Byte, 2 = args.length → (ofTwo f args).isSome = true
  | [_, _], _ => rfl

theorem ofThree_isSome (f : Byte → Byte → Byte → Instr) : ∀ args : List Byte, 3 = args.length → (ofThree f args).isSome = true
  | [_, _, _], _ => rfl

theorem ofFour_isSome (f : Byte → Byte → Byte → Byte → Instr) :
    ∀ args : List Byte, 4 = args.length → (ofFour f args).isSome = true
  | [_, _, _, _], _ => rfl

theorem ofSetPath_isSome : ∀ args : List Byte, 6 = args.length → (ofSetPath args).isSome = true
  | [_, _, _, _, _, _], _ => rfl

theorem ofSetWindow_isSome : ∀ args : List Byte, 14 = args.length → (ofSetWindow args).isSome = true
  | [_, _, _, _, _, _, _, _, _, _, _, _, _, _], _ => rfl

theorem ofSetGroup_isSome : ∀ args : List Byte, 19 = args.length → (ofSetGroup args).isSome = true
  | [_, _, _, _, _, _, _, _, _, _, _, _, _, _, _, _, _, _, _], _ => rfl

/-- A command of the catalogue is read from as many argument bytes as the catalogue names. -/
theorem Instr.ofArgs_isSome (id : Byte) (args : List Byte) (h : argLength id = some args.length) :
    (Instr.ofArgs id args).isSome = true := by
  unfold argLength at h
  unfold Instr.ofArgs
  split at h <;> rename_i he <;>
    simp_all [ofOne_isSome, ofTwo_isSome, ofThree_isSome, ofFour_isSome, ofSetPath_isSome, ofSetWindow_isSome, ofSetGroup_isSome,
      List.eq_nil_iff_length_eq_zero]

/-- The argument lengths of the catalogue are 30 at most. -/
theorem argLength_le (id : Byte) (n : Nat) (h : argLength id = some n) : n ≤ 30 := by
  unfold argLength at h
  split at h <;> simp_all <;> omega

/-- Every complete message is read as some row, and no other list of bytes is. -/
theorem Instr.ofMessage_isSome (msg : List Byte) : (Instr.ofMessage msg).isSome = (messageParts msg).isSome := by
  unfold Instr.ofMessage
  cases h : messageParts msg with
  | none => rfl
  | some p =>
    dsimp only
    split
    · rfl
    split
    · rfl
    · rename_i hc
      have hl : argLength p.id = some p.len.toNat := by simpa [MessageParts.inCatalogue] using hc
      have hp : p.args.length = argBytes p.len := by
        unfold messageParts at h
        split at h <;> [skip; cases h]
        split at h <;> [skip; cases h]
        rename_i hd
        have := congrArg List.length hd
        cases h
        simp at this ⊢
        omega
      refine Instr.ofArgs_isSome _ _ (hl.trans ?_)
      rw [hp, argBytes, if_pos (argLength_le _ _ hl)]

end Sys2Proof

namespace Sys2Proof.Machine

/-- A message that is open stays so, or is complete with one byte more. -/
theorem messageOpen_snoc (bytes : List Byte) (b : Byte) (h : messageOpen bytes = true)
    (hn : Instr.ofMessage (bytes ++ [b]) = none) : messageOpen (bytes ++ [b]) = true := by
  have hp : messageParts (bytes ++ [b]) = none := by
    simpa [hn] using (Instr.ofMessage_isSome (bytes ++ [b])).symm
  rcases bytes with _ | ⟨id, _ | ⟨len, rest⟩⟩
  · rfl
  · rfl
  · simp only [messageOpen, decide_eq_true_eq] at h
    by_contra hc
    have he : rest.length = argBytes len := by
      simp [messageOpen] at hc; omega
    simp [messageParts, ← he] at hp

/-! ### Bytes and bits -/

/-- The eight bits of a byte make the byte again. -/
@[simp] theorem byteOf_byteBits (b : Byte) : byteOf (byteBits b) = b := by
  revert b; decide +kernel

/-- With select released, or in IDLE, a clock period does nothing. -/
theorem State.clockPeriod_idle (s : State) (bit : Bool) (h : s.mgmt.select = false ∨ s.mgmt.phase = .idle) :
    s.clockPeriod bit = .next s := by
  unfold State.clockPeriod; split
  · rcases h with h | h <;> simp_all
  · rfl

/-- In a transaction a clock period is one more bit of the byte group. -/
theorem State.clockPeriod_live (s : State) (bit : Bool) (hs : s.mgmt.select = true) (hp : s.mgmt.phase ≠ .idle) :
    s.clockPeriod bit = s.bitReceived bit := by
  unfold State.clockPeriod; rw [if_pos hs]; split <;> simp_all

/-- One of the first seven bits of a group is kept. -/
theorem State.bitReceived_kept (s : State) (bit : Bool) (h : s.mgmt.bitsIn.length < 7) :
    s.bitReceived bit = .next { s with mgmt := { s.mgmt with bitsIn := s.mgmt.bitsIn ++ [bit] } } := by
  unfold State.bitReceived; rw [if_pos (by simp [Config.groupBits]; omega)]

/-- The bit that makes the group a byte completes it. -/
theorem State.bitReceived_byte (s : State) (bit : Bool) (b : Byte) (h : s.mgmt.bitsIn ++ [bit] = byteBits b) :
    s.bitReceived bit = s.byteDone b := by
  have hl : s.mgmt.bitsIn.length + 1 = 8 := by simpa [byteBits] using congrArg List.length h
  unfold State.bitReceived; rw [if_neg (by simp [Config.groupBits, hl]), h, byteOf_byteBits]

/-- All that a clock period can do: nothing, outside a transaction; in one, a change of the port's own bits, bytes and count, or a row of
the table. -/
theorem State.clockPeriod_cases (s : State) (bit : Bool) :
    ((s.mgmt.select = false ∨ s.mgmt.phase = .idle) ∧ s.clockPeriod bit = .next s) ∨
      (s.mgmt.select = true ∧ s.mgmt.phase ≠ .idle ∧
        ((∃ command bitsIn sent, s.clockPeriod bit =
            .next { s with mgmt := { s.mgmt with command := command, bitsIn := bitsIn, sent := sent } }) ∨
          ∃ i, s.clockPeriod bit = exec i s)) := by
  by_cases h : s.mgmt.select = false ∨ s.mgmt.phase = .idle
  · exact .inl ⟨h, s.clockPeriod_idle bit h⟩
  · simp only [not_or, Bool.not_eq_false] at h
    refine .inr ⟨h.1, h.2, ?_⟩
    rw [s.clockPeriod_live bit h.1 h.2]
    unfold State.bitReceived State.byteDone State.commandByte State.responseByte
    (repeat' split) <;> first | exact .inr ⟨_, rfl⟩ | exact .inl ⟨_, _, _, rfl⟩

end Sys2Proof.Machine
end

