-- ==== Sys2Proof/Tests/Slice0.lean ====
section
/-! SUPPORT. Small tests: what the well-formedness checks refuse, words written out from the spec's encodings, one step here and
there with the spec's own numbers, and for each statement a state and operands that meet its hypotheses. -/

namespace Sys2Proof.Tests

/-! The tests are evaluated one after another: all at once they need more threads than the memory limit of the check allows. -/
set_option Elab.async false

open Sys2Proof Sys2Proof.Machine Sys2Proof.Claims

/-! ### States -/

/-- W0: 1000h to 1FFFh, STAGE for G1, FORWARD, MERGE. W1: 2000h to 2FFFh, GUARD for privileged cycles. W2: 3000h to 3FFFh, CLOSED. W3 and
W4: 4000h to 4FFFh, both PASS. W5: 5000h to 5FFFh, STAGE for G2, which is DISABLED, with view MEMORY. -/
def windows : Vector Window 16 :=
  #v[⟨true, 0x1000, 0x1000, .stage, .any, 1, .forward, .merge⟩, ⟨true, 0x2000, 0x1000, .guard, .privilegedOnly, 0, .memory, .keep⟩,
    ⟨true, 0x3000, 0x1000, .closed, .any, 0, .memory, .keep⟩, ⟨true, 0x4000, 0x1000, .pass, .any, 0, .memory, .keep⟩,
    ⟨true, 0x4000, 0x1000, .pass, .any, 0, .memory, .keep⟩, ⟨true, 0x5000, 0x1000, .stage, .any, 2, .memory, .keep⟩,
    Window.reset, Window.reset, Window.reset, Window.reset, Window.reset, Window.reset, Window.reset, Window.reset,
    Window.reset, Window.reset]

/-- G1 collects: two entries, quota 2, triggered on C1. -/
def g1 : Group :=
  { Group.reset with state := .collecting, config := { GroupConfig.reset with channelSet := 1, quota := 2 } }

/-- An entry of G1. -/
def entry (word : Addr) (part : EntryPart) : Entry := ⟨1, word, ⟨some 1, none, none, none⟩, 0, .normal, true, 0, part⟩

/-- A part with windows, a collecting group and an open transaction. -/
def base : State :=
  { State.reset with
    decoder := ⟨windows, .pass, false⟩
    groups := State.reset.groups.set 1 g1
    queue := { Queue.reset with entries := [entry 0x1000 .collecting] }
    mgmt := ⟨.command, [], [], none, 0, none, false, true⟩ }

/-- The same with G1 at its quota. -/
def full : State := { base with queue := { base.queue with entries := [entry 0x1000 .collecting, entry 0x1004 .collecting] } }

/-- A cycle on lane 0. -/
def cyc (addr : Addr) (kind : CycleKind) (cls : CycleClass) : UCycle :=
  ⟨addr, kind, cls, ⟨true, false, false, false⟩, ⟨7, 0, 0, 0⟩⟩

/-- The same cycle with no lane. -/
def bare (c : UCycle) : UCycle := { c with lanes := ⟨false, false, false, false⟩ }

/-- G1 with its batch of two begun. -/
def g1Running : Group :=
  { g1 with
    state := .releasing, batchSize := 2, batchNumber := 1, underway := true, origin := some ⟨.pin, .channel 0, 0, ⟨0, 0⟩⟩
    firstStart := some ⟨0, 1⟩, lastStart := some ⟨0, 1⟩ }

/-- G1 running its batch of two, its first write in flight. -/
def running : State :=
  { base with
    groups := base.groups.set 1 g1Running
    queue := { base.queue with entries := [entry 0x1000 .batch, entry 0x1004 .batch] }
    engine := ⟨.running 1 false .inFlight, Vector.replicate 8 0⟩
    arbiter := ⟨.busy .engine ⟨releaseWrite (entry 0x1000 .batch), .due, 64⟩, 1, 8, 64⟩ }

/-- The same with its last write in flight. -/
def lastWrite : State := { running with queue := { running.queue with entries := [entry 0x1000 .batch] } }

/-- The same as running, with fault policy SKIP. -/
def skipping : State :=
  { running with groups := base.groups.set 1 { g1Running with config := { g1.config with faultPolicy := .skip } } }

/-- G1 FAULTED at its first entry. -/
def faulted : State :=
  { running with
    groups := base.groups.set 1 { g1Running with state := .faulted, faults := 1, firstFault := some 0x1000 }
    engine := Engine.reset
    arbiter := Arbiter.reset }

/-- A host cycle. -/
def hostCycle (claim : Claim) : HostCycle := ⟨cyc 0x8000 .read .normal, none, .passThrough, claim⟩

/-- A cycle on the port with its timer due. -/
def outstanding : Outstanding := ⟨hostDownstream (cyc 0x8000 .read .normal) .passThrough, .due, 64⟩

/-- The host's cycle in flight. -/
def hostBusy : State :=
  { base with
    upstream := ⟨some (hostCycle .inFlight), none⟩
    arbiter := { Arbiter.reset with port := .busy .host outstanding } }

/-- A held write of G1. -/
def held : State :=
  { full with queue := { full.queue with
      held := some (written full (cyc 0x1008 .write .normal) 0), holdTimer := .due } }

/-- The link UP with a frame in progress. -/
def linkUp : State :=
  { base with link := { Link.reset 0 with
      state := .up, carrier := true, carrierTimer := .due, inFrame := true, history := [true, true, true, true] } }

/-- The link in ACQUIRING with a frame in progress and this count. -/
def acquiring (n : Nat) : State := { linkUp with link := { linkUp.link with state := .acquiring, acquired := n } }

/-- A frame with these first three bytes and a good check. -/
def frame (b0 b1 b2 : Byte) : BitVec 32 := (b0 ++ b1 ++ b2 ++ crcBytes [b0, b1, b2] : BitVec (8 + 8 + 8 + 8))

/-! ### Well-formedness -/

theorem test_wf_refuses_good_check : (Instr.checkError [0x40, 0x00, 0x5B]).wf = false := by decide +kernel
theorem test_wf_refuses_short_message : (Instr.checkError [0x40]).wf = false := by decide +kernel
theorem test_wf_refuses_known_command : (Instr.badCommand [0x40, 0x00, 0x5B]).wf = false := by decide +kernel
theorem test_wf_refuses_bad_check_as_bad_command : (Instr.badCommand [0x40, 0x00, 0x5A]).wf = false := by decide +kernel
theorem test_wf_refuses_scope_all_in_collecting : (Instr.purgeCollecting 2 1).wf = false := by decide +kernel
theorem test_wf_refuses_skip_in_retry : (Instr.resumeRetry 2 1).wf = false := by decide +kernel
theorem test_wf_refuses_other_kinds_in_trigger :
    (Instr.localFrameTrigger 1 0 1).wf = false ∧ (Instr.localFrameTrigger 4 0 1).wf = false ∧
      (Instr.localFrameTrigger 5 0 1).wf = false ∧ (Instr.localFrameTrigger 6 0 1).wf = false := by decide +kernel
theorem test_wf_accepts :
    (Instr.checkError [0x40, 0x00, 0x5A]).wf = true ∧ (Instr.badCommand [0, 0, 0]).wf = true ∧
      (Instr.purgeCollecting 2 2).wf = true ∧ (Instr.resumeRetry 2 0).wf = true ∧
      (Instr.localFrameTrigger 2 0 1).wf = true := by decide +kernel

/-! ### The wire -/

/-- The check of the text "123456789" with this polynomial, a register of 0 and no reflection is F4h. -/
theorem test_crc_of_nine_digits : crcBytes [0x31, 0x32, 0x33, 0x34, 0x35, 0x36, 0x37, 0x38, 0x39] = 0xF4 := by decide +kernel
theorem test_frame_of_zeros_has_good_check : (LinkFrame.whole 0).checkGood = true := by decide +kernel
theorem test_truncated_frame_has_bad_check : LinkFrame.truncated.checkGood = false := by decide +kernel
/-- Station 5, kind EVENT, profile 2, argument A5h, sequence 6: 00000101 001 10 10100101 110. -/
theorem test_frame_fields :
    FrameFields.ofBits 0b00000101_001_10_10100101_110_00000000#32 = ⟨5, .event, 2, 0xA5, 6⟩ := by decide +kernel
theorem test_message_of_get_status : Instr.getStatus.message = [0x40, 0x00, 0x5B] := by decide +kernel
theorem test_message_of_set_host_inhibit : (Instr.setHostInhibit 1).message = [0x33, 0x01, 0x01, 0x4E] := by decide +kernel
theorem test_message_of_purge : (Instr.purgeAll 2).message = [0x26, 0x02, 0x02, 0x01, 0x41] := by decide +kernel
theorem test_no_row_has_bits (w : Nat) : decodeTableWord 32 w = none := rfl

/-! ### One step -/

/-- A command answers a next state with p. -/
def gives (c : Instr) (s : State) (p : State → Bool) : Bool :=
  match exec c s with
  | .next t => p t
  | .fault _ => false
  | .refused _ => false

/-- R7 after a pin reset with DPOL low: every cycle is refused with DEFAULT_REFUSE, cause bit 5. -/
theorem test_cycle_after_reset_is_refused :
    gives (cycle (cyc 0 .write .normal)) State.reset (fun t =>
      t.upstream.response == some (.error none) && t.report.causes == 0x20#16 &&
        t.report.refusal == some ⟨⟨0, .write, .normal, ⟨true, false, false, false⟩⟩, .defaultRefuse, none, false⟩) = true := by
  decide +kernel
/-- R9: the class test comes before the kind test. -/
theorem test_normal_write_to_privileged_guard_is_class :
    gives (cycle (cyc 0x2000 .write .normal)) base (fun t => t.report.refusal.map (·.reason) == some .cls) = true := by
  decide +kernel
/-- R15: a second refusal sets further and keeps the first record. -/
theorem test_second_refusal_sets_further :
    gives (cycle (cyc 0x3000 .read .normal)) (refused base (cyc 0x4000 .read .normal) .overlap none) (fun t =>
      t.report.refusal.map (fun r => (r.reason, r.further)) == some (.overlap, true)) = true := by
  decide +kernel
/-- R27: a merge replaces the byte and adds no entry. -/
theorem test_write_merges :
    gives (cycle (cyc 0x1003 .write .normal)) base (fun t =>
      t.queue.entries.map (·.bytes) == [⟨some 7, none, none, none⟩] && t.queue.arrival == 0) = true := by
  decide +kernel
/-- R25: the arrival counter wraps from 65 535 to 0. -/
theorem test_arrival_counter_wraps :
    gives (cycle (cyc 0x1004 .write .normal)) { base with queue := { base.queue with arrival := 0xFFFF } } (fun t =>
      t.queue.entries.map (·.arrival) == [0, 0xFFFF] && t.queue.arrival == 0) = true := by
  decide +kernel
/-- R39: an uncovered lane takes memory's byte, a covered one the queue's. -/
theorem test_forwarding_read_mixes_lanes :
    gives (.downstreamResponse (.done ⟨9, 8, 7, 6⟩))
      { hostBusy with upstream :=
        ⟨some ⟨cyc 0x1000 .read .normal, some 0, .forwarding ⟨some 1, none, none, none⟩, .inFlight⟩, none⟩ } (fun t =>
      t.upstream.response == some (.done (some ⟨1, 8, 7, 6⟩))) = true := by
  decide +kernel
/-- R77, R78, R92: the next write of a ONCE batch is granted at the response, and its entry has left the queue. -/
theorem test_release_goes_on :
    gives (.downstreamResponse (.done ⟨0, 0, 0, 0⟩)) running (fun t =>
      t.queue.entries.map (·.word) == [0x1004] && t.groups[1].position == 1 && t.engine.tally[1] == 1 &&
        t.arbiter.port == .busy .engine ⟨releaseWrite (entry 0x1004 .batch), .running 64, 64⟩ && t.arbiter.burst == 2) = true := by
  decide +kernel
/-- R61, R62: the last write of a ONCE batch ends it COMPLETE; RELEASE_DONE is cause bit 0. -/
theorem test_last_write_ends_the_batch :
    gives (.downstreamResponse (.done ⟨0, 0, 0, 0⟩)) lastWrite (fun t =>
      t.groups[1].state == .collecting && t.report.completions.map (fun c => (c.outcome, c.writesOk, c.unwritten)) ==
        [(.complete, 1, 0)] && t.report.causes == 1) = true := by
  decide +kernel
/-- R95: a timeout holds the port for the recorded D_TIMEOUT once more. -/
theorem test_timeout_recovers :
    gives .downstreamTimeout running (fun t =>
      t.groups[1].state == .faulted &&
        t.arbiter.port == .recovering ⟨releaseWrite (entry 0x1000 .batch), .running 64, 64⟩) = true := by
  decide +kernel
/-- R56, R60, R76: a trigger with delay 0 cuts G1, and the idle engine writes its first entry at the same event. -/
theorem test_trigger_starts_a_release :
    gives .trigEdge base (fun t =>
      t.groups[1].state == .releasing && t.groups[1].batchNumber == 1 && t.groups[1].batchSize == 1 &&
        t.engine.phase == .running 1 false .inFlight && t.queue.entries.map (·.part) == [.batch]) = true := by
  decide +kernel
/-- R55: a trigger with nothing collected posts an EMPTY record. -/
theorem test_empty_batch :
    gives .trigEdge { base with queue := Queue.reset } (fun t =>
      t.report.completions.map (fun c => (c.outcome, c.batchNumber)) == [(.empty, 1)] &&
        t.groups[1].state == .collecting && t.groups[1].lastOutcome == some .empty) = true := by
  decide +kernel
/-- R58: a trigger at a busy group is missed; TRIGGER_MISSED is cause bit 2. -/
theorem test_busy_group_misses :
    gives .trigEdge running (fun t =>
      t.groups[1].missed == 1 && t.groups[1].lastMissed == some .busy && t.report.causes == 4) = true := by
  decide +kernel
/-- R127: the n-th tick ends a count of n. -/
theorem test_tick_ends_a_count_of_one :
    gives .tick { base with queue := { base.queue with holdTimer := .running 1 } } (fun t =>
      t.queue.holdTimer == .due && t.time.counter == 1) = true := by
  decide +kernel
/-- R128: the epoch counter wraps and leaves the generation. -/
theorem test_epoch_counter_wraps :
    gives .tick { base with time := { TimeBase.reset with counter := 0xFFFFFFFFFFFF, generation := 3 } } (fun t =>
      t.time.counter == 0 && t.time.generation == 3) = true := by
  decide +kernel
/-- R129: an EPOCH records the stamp before it, and the generation wraps from 255 to 0. -/
theorem test_epoch_wraps_the_generation :
    gives (.localFrameEpoch 0 0) { base with time := { TimeBase.reset with counter := 5, generation := 255 } } (fun t =>
      t.time.counter == 0 && t.time.generation == 0 && t.time.lastEpoch == some ⟨.host, ⟨255, 5⟩⟩) = true := by
  decide +kernel
/-- R105: the fourth good frame in a row takes the link to UP; LINK_STATE is cause bit 6. -/
theorem test_fourth_good_frame_brings_the_link_up :
    gives (.frameReceived (.whole 0)) (acquiring 3) (fun t =>
      t.link.state == .up && t.link.acquired == 0 && t.report.causes == 0x40) = true := by
  decide +kernel
/-- R111: after sequence 7 the expected sequence is 0. -/
theorem test_sequence_wraps :
    gives (.frameReceived (.whole (frame 0 0x40 7))) linkUp (fun t => t.link.expected == some 0) = true := by
  decide +kernel
/-- R133: an INHIBIT frame adds LINK; INHIBIT_CHANGE is cause bit 9. -/
theorem test_inhibit_frame :
    gives (.frameReceived (.whole (frame 0 0x40 0))) linkUp (fun t =>
      t.inhibit.sources.link && t.report.causes == 0x200) = true := by
  decide +kernel
/-- R84: with a write in flight an inhibit lets it go on. -/
theorem test_inhibit_leaves_the_write_in_flight :
    gives (.inhChange true) running (fun t => t.engine.phase == .running 1 false .inFlight) = true := by
  decide +kernel
/-- R83: a STOP marks a group whose write is in flight; STOP_RECEIVED is cause bit 14. -/
theorem test_stop_marks_the_running_group :
    gives (.localFrameStop 0 0) running (fun t =>
      t.engine.phase == .running 1 true .inFlight && t.report.causes == 0x4000) = true := by
  decide +kernel
/-- R69: a group that is not DISABLED cannot be enabled; status WRONG_STATE is 04h, with no results. -/
theorem test_enable_of_a_collecting_group_is_refused :
    gives (.enableGroup 1) base (fun t => t.mgmt.response.map Reply.message == some [0x04, 0x00, crcBytes [4, 0]]) = true := by
  decide +kernel
/-- R45: PURGE ALL of a FAULTED group ends its batch PURGED and counts its entries. -/
theorem test_purge_of_a_faulted_group :
    gives (.purgeAll 1) faulted (fun t =>
      t.report.completions.map (fun c => (c.outcome, c.unwritten, c.writesFaulted)) == [(.purged, 2, 1)] &&
        t.queue.entries.length == 0 && t.mgmt.response.map (·.results) == some [0, 2]) = true := by
  decide +kernel
/-- R87: RESUME with SKIP passes the faulted entry. -/
theorem test_resume_skip :
    gives (.resumeSkip 1) faulted (fun t =>
      t.groups[1].position == 1 && t.queue.entries.map (·.word) == [0x1004] && t.groups[1].state == .releasing) = true := by
  decide +kernel
/-- R173 after a pin reset: REFUSE, 50, 64 and 8. -/
theorem test_get_path_after_reset :
    gives .getPath { State.reset with mgmt := base.mgmt } (fun t =>
      t.mgmt.response.map (·.results) == some [1, 0, 50, 0, 64, 8]) = true := by
  decide +kernel
/-- R170: RESET_DATAPATH answers a held write RETRY and keeps the arrival counter. -/
theorem test_reset_datapath_with_a_held_write :
    gives .resetDatapath held (fun t =>
      t.upstream.response == some .retry && t.queue.held == none && t.queue.entries.length == 0) = true := by
  decide +kernel
/-- R98: RESET_ALL lets a cycle in flight drain. -/
theorem test_reset_all_drains :
    gives .selectReleased { running with mgmt := { running.mgmt with pendingReset := true } } (fun t =>
      t.engine.phase == .draining && t.arbiter.port ==
        .draining ⟨releaseWrite (entry 0x1000 .batch), .due, 64⟩) = true := by
  decide +kernel

/-- The part in a transaction in this state of the port, with these command bytes and these bits of the byte group underway. -/
def wired (phase : MgmtPhase) (command : List Byte) (bitsIn : List Bool) : State :=
  { base with mgmt := ⟨phase, command, bitsIn, none, 0, none, false, true⟩ }

/-- A response of three bytes, WRONG_STATE, of which these have been sent whole, and these bits of the next. -/
def answering (sent : Nat) (bitsIn : List Bool) : State :=
  { base with mgmt := ⟨.response, [], bitsIn, some ⟨.wrongState, []⟩, sent, none, false, true⟩ }

/-- The seven bits that stand before the last one of 5Bh, the check byte of GET_STATUS. -/
def sevenBits : List Bool := [false, true, false, true, true, false, true]

/-- R164, R166: the command is settled at the last bit of its check byte, here 5Bh of GET_STATUS. -/
theorem test_last_bit_settles :
    (match step { wired .command [0x40, 0x00] sevenBits with clocks := [true] } with
      | .next t => t.mgmt.phase == .response && t.mgmt.command == [0x40, 0x00, 0x5B] &&
          t.mgmt.response.map (·.status) == some .done && t.clocks == []
      | _ => false) = true := by
  decide +kernel
/-- R163: 04h, the status WRONG_STATE, on data out: the sixth bit is its only 1. -/
theorem test_status_on_data_out :
    (List.range 8).map (fun n => (answering 0 (List.replicate n false)).dataOut) =
      [some false, some false, some false, some false, some false, some true, some false, some false] := by
  decide +kernel
/-- R164: FFh in COMMAND, undriven in IDLE. -/
theorem test_filler_and_undriven :
    (List.range 8).map (fun n => (wired .command [] (List.replicate n false)).dataOut) = List.replicate 8 (some true) ∧
      State.reset.dataOut = none := by
  decide +kernel
/-- R157, R163: a response released one bit before its end leaves the record of its TAKE. -/
theorem test_incomplete_last_byte_is_not_sent :
    gives .selectReleased { answering 2 sevenBits with
        report := { Report.reset with events := [⟨255, 3, .host, ⟨0, 0⟩⟩] }
        mgmt := { (answering 2 sevenBits).mgmt with pendingTake := some .events } } (fun t =>
      t.report.events.length == 1 && t.mgmt == Mgmt.idleAt false) = true := by
  decide +kernel

/-! ### For each statement, a state and operands that meet its hypotheses -/

theorem test_wit_idle_queue : base.pending = [] ∧ base.clocks = [] := ⟨rfl, rfl⟩
theorem test_wit_clocked_message :
    Instr.getStatus.wf = true ∧ Instr.getStatus.message ≠ [] ∧ base.pending = [] ∧ base.mgmt.select = true ∧ inCommand base ∧
      base.mgmt.command = [] ∧ base.mgmt.bitsIn = [] := by decide +kernel
theorem test_wit_a_step_is_made : ∃ t, exec .tick base = .next t := ⟨_, rfl⟩
theorem test_wit_message_command :
    (Instr.setGroup 255 ⟨255, 255, 255, 255, 255, 255, 0xFFFFFF, 255, 0xFFFF, 0xFFFFFF, 0xFFFF, 255⟩).wf = true ∧
      (Instr.setGroup 255 ⟨255, 255, 255, 255, 255, 255, 0xFFFFFF, 255, 0xFFFF, 0xFFFFFF, 0xFFFF, 255⟩).message ≠ [] := by
  decide +kernel
theorem test_wit_message_read :
    Instr.ofMessage [0x33, 0x01, 0x01, 0x4E] = some (.setHostInhibit 1) ∧
      Instr.ofMessage [0xFF, 0x00, crcBytes [0xFF, 0x00]] = some (.badCommand [0xFF, 0x00, crcBytes [0xFF, 0x00]]) := by
  decide +kernel
theorem test_wit_frame_bits :
    (0xFFFFFFFF#32 : BitVec 32) = ((255 : Byte) ++ (7 : BitVec 3) ++ (3 : BitVec 2) ++ (255 : Byte) ++ (7 : BitVec 3) ++ (255 : Byte) :
      BitVec (8 + 3 + 2 + 8 + 3 + 8)) ∧
    (0xFFFFFFFF#32 : BitVec 32) = ((255 : Byte) ++ (255 : Byte) ++ (255 : Byte) ++ (255 : Byte) : BitVec (8 + 8 + 8 + 8)) := by
  decide +kernel

/-- A tick at the front of the queue of a running part. -/
def ticking : State := { running with pending := [.tick] }

theorem test_wit_capacity : ticking.capacityOk ∧ full.capacityOk := by decide +kernel
theorem test_wit_batches : ticking.batchesOk := by decide +kernel
theorem test_wit_counts : ticking.countsOk ∧ settled ticking ∧ ticking.armedOk ∧ ticking.linkOk := by decide +kernel
theorem test_wit_inhibit : ticking.inhibitOk := by
  refine ⟨fun h => ?_, ?_⟩
  · exact absurd h (by decide +kernel)
  · decide +kernel
theorem test_wit_port : ticking.portOk := by
  exact ⟨by decide +kernel, by decide +kernel, by decide +kernel, fun o h => (by cases h), by decide +kernel⟩
theorem test_wit_transaction : ticking.transactionOk := by decide +kernel
theorem test_wit_ticking_steps : ∃ t, step ticking = .next t := ⟨_, rfl⟩

theorem test_wit_message_in_command : isMessage .getStatus ∧ inCommand base ∧ base.listsOk :=
  ⟨.inl (by decide +kernel), by decide +kernel, by decide +kernel⟩
theorem test_wit_message_outside_command : isMessage .getStatus ∧ State.reset.mgmt.phase ≠ .command :=
  ⟨.inl (by decide +kernel), by decide +kernel⟩
theorem test_wit_refused_message :
    ∃ t, exec (.enableGroup 8) base = .next t ∧ t.mgmt.response = some ⟨.badArgument, []⟩ := ⟨_, rfl, by decide +kernel⟩
theorem test_wit_link_source_changes :
    ∃ t, exec (.frameReceived (.whole (frame 0 0x40 0))) linkUp = .next t ∧
      t.inhibit.sources.link ≠ linkUp.inhibit.sources.link := ⟨_, rfl, by decide +kernel⟩
theorem test_wit_window_changes :
    ∃ t, exec (.setWindowEnable 15 1) base = .next t ∧ t.decoder.windows[15] ≠ base.decoder.windows[15] :=
  ⟨_, rfl, by decide +kernel⟩

/-- The part while RST is asserted. -/
def inReset : State := { State.reset with pins := ⟨true, false⟩ }

theorem test_wit_straps_change :
    ∃ t, exec (.rstReleased 255 true) inReset = .next t ∧ t.link.station ≠ inReset.link.station ∧
      t.decoder.dpolLatch ≠ inReset.decoder.dpolLatch := ⟨_, rfl, by decide +kernel, by decide +kernel⟩
theorem test_wit_configuration_changes :
    ∃ t, exec (.setGroup 7 (argsOf { GroupConfig.reset with quota := 512 })) base = .next t ∧
      t.groups[7].config ≠ base.groups[7].config := ⟨_, rfl, by decide +kernel⟩

/-- The default policy REFUSE. -/
def refusing : State := { base with decoder := { base.decoder with policy := .refuse } }

theorem test_wit_can_arrive : canArrive base ∧ canArrive refusing ∧ canArrive full := by decide +kernel
theorem test_wit_default_refuse : refusedBy refusing (cyc 0xFFFFFFFF .write .normal) .defaultRefuse none :=
  (by decide +kernel : (∀ i, ¬ contains refusing i (cyc 0xFFFFFFFF .write .normal)) ∧ refusing.decoder.policy = .refuse)
theorem test_wit_overlap : refusedBy base (cyc 0x4FFF .read .privileged) .overlap none :=
  ⟨3, 4, by decide +kernel, by decide +kernel, by decide +kernel⟩
theorem test_wit_class : refusedBy base (cyc 0x2000 .read .normal) .cls (some 1) :=
  (by decide +kernel : (∀ j, contains base j (cyc 0x2000 .read .normal) ↔ j = 1) ∧
    base.decoder.windows[(1 : WindowId)].filter = .privilegedOnly ∧ (cyc 0x2000 .read .normal).cls = .normal)
theorem test_wit_guard_write : refusedBy base (cyc 0x2FFF .write .privileged) .guardWrite (some 1) :=
  (by decide +kernel : admittedBy base 1 (cyc 0x2FFF .write .privileged) ∧
    base.decoder.windows[(1 : WindowId)].kind = .guard ∧ (cyc 0x2FFF .write .privileged).kind = .write)
theorem test_wit_closed : refusedBy base (bare (cyc 0x3FFF .read .normal)) .closed (some 2) :=
  (by decide +kernel : admittedBy base 2 (bare (cyc 0x3FFF .read .normal)) ∧
    base.decoder.windows[(2 : WindowId)].kind = .closed)
theorem test_wit_group_disabled : refusedBy base (cyc 0x5000 .write .normal) .groupDisabled (some 5) :=
  (by decide +kernel : admittedBy base 5 (cyc 0x5000 .write .normal) ∧
    base.decoder.windows[(5 : WindowId)].kind = .stage ∧ (cyc 0x5000 .write .normal).kind = .write ∧
    base.groups[base.decoder.windows[(5 : WindowId)].group].state = .disabled)
theorem test_wit_empty_cycles :
    noLane (bare (cyc 0x1FFF .write .normal)) ∧ stagedThrough base (bare (cyc 0x1FFF .write .normal)) 0 ∧
      forwardedThrough base (bare (cyc 0x1000 .read .normal)) 0 ∧
      admittedBy base 1 (bare (cyc 0x2000 .read .privileged)) := by decide +kernel
theorem test_wit_default_pass : passesThrough base (bare (cyc 0xFFF .write .normal)) none :=
  (by decide +kernel : (∀ i, ¬ contains base i (bare (cyc 0xFFF .write .normal))) ∧ base.decoder.policy = .pass)
theorem test_wit_pass_route :
    ¬ noLane (cyc 0x6000 .write .normal) ∧ takesRoute base (cyc 0x6000 .write .normal) none .passThrough :=
  ⟨by decide +kernel,
    (by decide +kernel : (∀ i, ¬ contains base i (cyc 0x6000 .write .normal)) ∧ base.decoder.policy = .pass)⟩
theorem test_wit_guard_read_route : takesRoute base (cyc 0x2FFF .read .privileged) (some 1) .passThrough :=
  ⟨by decide +kernel, .inr (.inl (by decide +kernel))⟩
theorem test_wit_memory_view_route : takesRoute base (cyc 0x5FFF .read .normal) (some 5) .passThrough :=
  ⟨by decide +kernel, .inr (.inr (by decide +kernel))⟩
theorem test_wit_forwarding_route :
    takesRoute base (cyc 0x1003 .read .normal) (some 0) (.forwarding ⟨some 1, none, none, none⟩) :=
  ⟨0, rfl, by decide +kernel,
    ⟨⟨[], entry 0x1000 .collecting, [], rfl, rfl, by decide +kernel, rfl, by simp⟩,
      (by decide +kernel : ∀ x ∈ base.queue.entries, _), (by decide +kernel : ∀ x ∈ base.queue.entries, _),
      (by decide +kernel : ∀ x ∈ base.queue.entries, _)⟩, .inr (.inl rfl)⟩

/-- An entry of G1 with four lanes, for the word 1000h. -/
def whole : Entry := { entry 0x1000 .batch with bytes := ⟨some 1, some 2, some 3, some 4⟩ }

/-- A part with that entry alone. -/
def covering : State := { base with queue := { base.queue with entries := [whole] } }

theorem test_wit_covered_read :
    canArrive covering ∧ forwardedThrough covering (cyc 0x1000 .read .normal) 0 ∧
      findsAll covering covering.decoder.windows[(0 : WindowId)].group (word (cyc 0x1000 .read .normal))
        ⟨some 1, some 2, some 3, some 4⟩ :=
  ⟨by decide +kernel, by decide +kernel,
    ⟨[], whole, [], rfl, rfl, by decide +kernel, rfl, by simp⟩, ⟨[], whole, [], rfl, rfl, by decide +kernel, rfl, by simp⟩,
    ⟨[], whole, [], rfl, rfl, by decide +kernel, rfl, by simp⟩, ⟨[], whole, [], rfl, rfl, by decide +kernel, rfl, by simp⟩⟩

theorem test_wit_merge :
    ¬ noLane (cyc 0x1003 .write .normal) ∧ stagedThrough full (cyc 0x1003 .write .normal) 0 ∧
      full.queue.entries = [] ++ entry 0x1000 .collecting :: [entry 0x1004 .collecting] ∧
      mayMerge (written full (cyc 0x1003 .write .normal) 0) (entry 0x1000 .collecting) := by decide +kernel
theorem test_wit_append :
    ¬ noLane (cyc 0x1FFF .write .normal) ∧ stagedThrough base (cyc 0x1FFF .write .normal) 0 ∧
      (∀ x ∈ base.queue.entries, ¬ mayMerge (written base (cyc 0x1FFF .write .normal) 0) x) ∧
      space base (written base (cyc 0x1FFF .write .normal) 0).group := by decide +kernel

/-- G1 at its quota with this HOLD_LIMIT. -/
def limited (n : Nat) : State := { full with queue := { full.queue with holdLimit := n } }

theorem test_wit_no_space (n : Nat) :
    canArrive (limited n) ∧ ¬ noLane (cyc 0x1008 .write .normal) ∧
      (∀ x ∈ (limited n).queue.entries, ¬ mayMerge (written (limited n) (cyc 0x1008 .write .normal) 0) x) ∧
      ¬ space (limited n) (written (limited n) (cyc 0x1008 .write .normal) 0).group :=
  (by decide +kernel :
    canArrive full ∧ ¬ noLane (cyc 0x1008 .write .normal) ∧
      (∀ x ∈ full.queue.entries, ¬ mayMerge (written full (cyc 0x1008 .write .normal) 0) x) ∧
      ¬ space full (written full (cyc 0x1008 .write .normal) 0).group)
theorem test_wit_no_space_staged :
    stagedThrough (limited 0) (cyc 0x1008 .write .normal) 0 ∧ (limited 0).queue.holdLimit = 0 ∧
      stagedThrough (limited 1) (cyc 0x1008 .write .normal) 0 ∧ 1 ≤ (limited 1).queue.holdLimit := by decide +kernel
theorem test_wit_hold_expiry :
    held.queue.held = some (written full (cyc 0x1008 .write .normal) 0) ∧ held.queue.holdTimer = .due := by decide +kernel

/-- The port in this state, the engine draining where the port drains. -/
def portIn (p : PortState) : State :=
  { base with arbiter := { Arbiter.reset with port := p }, engine := ⟨p.enginePhase, Vector.replicate 8 0⟩ }

theorem test_wit_unawaited :
    base.arbiter.port = .free ∧ (portIn (.recovering outstanding)).arbiter.port = .recovering outstanding := ⟨rfl, rfl⟩
theorem test_wit_host_cycle :
    hostBusy.arbiter.port = .busy .host outstanding ∧ hostBusy.upstream.host = some (hostCycle .inFlight) ∧
      outstanding.timer = .due := ⟨rfl, rfl, rfl⟩

/-- The write in flight in the running states. -/
def write : Outstanding := ⟨releaseWrite (entry 0x1000 .batch), .due, 64⟩

theorem test_wit_release_goes_on :
    writeInFlight running 1 false write .done ∧ ¬ repetitionOver (passed (writeOver running 1 write .done) 1) 1 := by
  decide +kernel
theorem test_wit_skip_goes_on :
    writeInFlight skipping 1 false write .timeout ∧ skipping.groups[(1 : GroupId)].config.faultPolicy = .skip ∧
      ¬ repetitionOver (passed (writeOver skipping 1 write .timeout) 1) 1 ∧
      ¬ repetitionOver (passed (writeOver skipping 1 write .error) 1) 1 := by decide +kernel
theorem test_wit_release_ends :
    writeInFlight lastWrite 1 false write .done ∧ repetitionOver (passed (writeOver lastWrite 1 write .done) 1) 1 := by
  decide +kernel

/-- G1 in REPEAT, its last entry in flight. -/
def repeating : State :=
  { running with
    groups := base.groups.set 1 { g1Running with position := 1, config := { g1.config with mode := .repeating, repeatCount := 2 } } }

theorem test_wit_repetition_ends :
    writeInFlight repeating 1 false write .done ∧ repetitionOver (passed (writeOver repeating 1 write .done) 1) 1 ∧
      ¬ lastRepetition (repetitionCounted (engineIdle (passed (writeOver repeating 1 write .done) 1)) 1) 1 := by
  decide +kernel

/-- The running part with G1 marked stopping. -/
def stopping : State := { running with engine := ⟨.running 1 true .inFlight, Vector.replicate 8 0⟩ }

theorem test_wit_stopping_goes_on :
    writeInFlight stopping 1 true write .done ∧ ¬ repetitionOver (passed (writeOver stopping 1 write .done) 1) 1 := by
  decide +kernel
theorem test_wit_halt :
    writeInFlight running 1 false write .error ∧ writeInFlight stopping 1 true write .timeout ∧
      running.groups[(1 : GroupId)].config.faultPolicy = .halt := by decide +kernel
theorem test_wit_drains :
    (portIn (.draining outstanding)).arbiter.port = .draining outstanding ∧
      (portIn (.recovering outstanding)).arbiter.port = .recovering outstanding ∧ outstanding.timer = .due := ⟨rfl, rfl, rfl⟩

/-- G1 in this state with its timer due. -/
def expiring (st : GroupState) : State := { base with groups := base.groups.set 1 { g1Running with state := st, timer := .due } }

theorem test_wit_group_timers :
    (expiring .pending).groups[(1 : GroupId)].timer = .due ∧ (expiring .pending).groups[(1 : GroupId)].state = .pending ∧
      (expiring .interval).groups[(1 : GroupId)].timer = .due ∧ (expiring .interval).groups[(1 : GroupId)].state = .interval ∧
      (expiring .faulted).groups[(1 : GroupId)].timer = .due ∧ (expiring .faulted).groups[(1 : GroupId)].underway = true ∧
      (expiring .faulted).groups[(1 : GroupId)].state ∈ [.ready, .releasing, .held, .faulted] := by decide +kernel
theorem test_wit_tick :
    inReset.pins.rst = true ∧ base.pins.rst = false ∧ base.queue.holdTimer ≠ .due ∧
      (∀ g : GroupId, base.groups[g].timer ≠ .due) ∧ base.link.carrierTimer ≠ .due := by decide +kernel
theorem test_wit_tick_port :
    (∀ a o, base.arbiter.port = .busy a o → o.timer ≠ .due) ∧
      ∀ o, base.arbiter.port = .draining o ∨ base.arbiter.port = .recovering o → o.timer ≠ .due :=
  ⟨fun _ _ h => (by cases h), fun _ h => (by rcases h with h | h <;> cases h)⟩
theorem test_wit_cannot_happen :
    (∀ a o, base.arbiter.port = .busy a o ∨ base.arbiter.port = .draining o → o.timer ≠ .due) ∧
      (∀ o, base.arbiter.port = .recovering o → o.timer ≠ .due) ∧ base.queue.held = none ∧
      (base.groups[(7 : GroupId)].timer ≠ .due) ∧ base.link.carrierTimer ≠ .due ∧ base.link.inFrame = false ∧
      base.link.carrier = false ∧ base.pins.rst = false ∧ base.mgmt.select = true ∧ base.mgmt.phase ≠ .response ∧
      inReset.pins.rst = true ∧ (held.pins.rst = false ∧ held.queue.held ≠ none) ∧ hostBusy.upstream.host ≠ none :=
  ⟨fun _ _ h => (by rcases h with h | h <;> cases h), fun _ h => (by cases h), by decide +kernel⟩
theorem test_wit_expiry_of_another_state :
    (expiring .interval).groups[(1 : GroupId)].timer = .due ∧ (expiring .interval).groups[(1 : GroupId)].state ≠ .pending ∧
      (expiring .pending).groups[(1 : GroupId)].timer = .due ∧ (expiring .pending).groups[(1 : GroupId)].state ≠ .interval ∧
      (expiring .pending).groups[(1 : GroupId)].state ∉ [.ready, .releasing, .held, .faulted] := by decide +kernel
theorem test_wit_tick_with_an_expiry :
    (expiring .pending).pins.rst = false ∧ (expiring .pending).groups[(1 : GroupId)].timer = .due := by decide +kernel
theorem test_wit_line :
    base.pins.rst = false ∧ base.link.carrier = false ∧ linkUp.link.carrier = true ∧ linkUp.link.inFrame = true ∧
      linkUp.link.carrierTimer = .due := by decide +kernel
theorem test_wit_line_between_frames :
    ({ linkUp.link with inFrame := false }).carrier = true ∧ ({ linkUp.link with inFrame := false }).inFrame = false := ⟨rfl, rfl⟩
theorem test_wit_frames :
    (acquiring 2).link.inFrame = true ∧ (acquiring 2).link.state = .acquiring ∧ (acquiring 2).link.acquired < 3 ∧
      (acquiring 3).link.acquired = 3 ∧ (LinkFrame.whole 0).checkGood = true ∧ LinkFrame.truncated.checkGood = false ∧
      linkUp.link.inFrame = true ∧ linkUp.link.state = .up := by decide +kernel
theorem test_wit_good_frames :
    (LinkFrame.whole (frame 255 0x40 0)).checkGood = true ∧
      wellFormatted (FrameFields.ofBits (frame 255 0x40 0)).kind (FrameFields.ofBits (frame 255 0x40 0)).argument ∧
      (FrameFields.ofBits (frame 255 0x40 0)).station = 255 ∧ (FrameFields.ofBits (frame 0 0x40 0)).station = linkUp.link.station ∧
      (FrameFields.ofBits (frame 1 0x40 0)).station ≠ linkUp.link.station ∧
      ¬ wellFormatted (FrameFields.ofBits (frame 0 0x00 0)).kind (FrameFields.ofBits (frame 0 0x00 0)).argument ∧
      (FrameFields.ofBits (frame 0 0x00 0)).kind = .trigger ∧ (FrameFields.ofBits (frame 0 0x00 0x40)).argument = 8 ∧
      wellFormatted .trigger 8 ∧ ¬ wellFormatted .trigger 9 ∧ wellFormatted .stop 0 ∧ ¬ wellFormatted .setup 9 := by
  decide +kernel
theorem test_wit_inhibit_commands : inCommand base ∧ (1 : Byte) = yesNo true ∧ 1 < (2 : Byte).toNat := by decide +kernel
theorem test_wit_pin_resets :
    inReset.pins.rst = true ∧ State.reset.pins.inhHigh = false ∧ State.reset.mgmt.select = false ∧ State.reset.pending = [] ∧
      State.reset.clocks = [] := by
  decide +kernel

/-- The part with a response to be sent, with this TAKE pending. -/
def sending (q : Option TakeQueue) : State := { base with mgmt := ⟨.response, [], [], some ⟨.wrongState, []⟩, 0, q, false, true⟩ }

theorem test_wit_transactions :
    State.reset.mgmt.select = false ∧ State.reset.pins.rst = false ∧ (sending none).mgmt.phase = .response ∧
      (sending none).mgmt.pendingTake = none ∧ base.mgmt.pendingReset = false ∧ inCommand base := by decide +kernel

theorem test_wit_select_under_reset : inReset.mgmt.select = false ∧ inReset.pins.rst = true := ⟨rfl, rfl⟩
theorem test_wit_sends :
    sends State.reset none ∧ sends base (some 0xFF) ∧ sends (wired .trailing [] []) (some 0xFF) ∧ sends (answering 0 []) (some 4) ∧
      sends (answering 2 sevenBits) (some (crcBytes [4, 0])) :=
  ⟨.inl rfl, ⟨rfl, .inl ⟨.inl rfl, rfl⟩⟩, ⟨rfl, .inl ⟨.inr rfl, rfl⟩⟩, ⟨rfl, .inr ⟨rfl, _, rfl, by decide +kernel⟩⟩,
    ⟨rfl, .inr ⟨rfl, _, rfl, by decide +kernel⟩⟩⟩
theorem test_wit_bits_of_a_byte :
    (wired .command [] (List.replicate 6 true)).mgmt.bitsIn.length < 7 ∧ (wired .command [] []).mgmt.phase ≠ .idle ∧
      completes (wired .command [0x40, 0x00] sevenBits) true 0x5B ∧ completes (wired .trailing [] sevenBits) true 0x5B ∧
      completes (answering 1 sevenBits) true 0x5B := by
  refine ⟨by decide +kernel, by decide +kernel, ⟨rfl, ?_⟩, ⟨rfl, ?_⟩, ⟨rfl, ?_⟩⟩ <;> decide +kernel
theorem test_wit_bytes_of_a_message :
    Instr.ofMessage ((wired .command [0x40, 0x00] sevenBits).mgmt.command ++ [0x5B]) = some .getStatus ∧
      Instr.ofMessage ((wired .command [0x40, 0x1F] sevenBits).mgmt.command ++ [0x5B]) ≠ none ∧
      Instr.ofMessage ((wired .command [0x40, 0x1E] sevenBits).mgmt.command ++ [0x5B]) = none ∧
      Instr.ofMessage ((wired .command [] sevenBits).mgmt.command ++ [0x5B]) = none ∧
      1 + 1 < (responseMessage ⟨.wrongState, []⟩).length ∧ 2 + 1 = (responseMessage ⟨.wrongState, []⟩).length := by
  decide +kernel

/-- A record of an empty batch, and an event record. -/
def records : Report :=
  { Report.reset with
    completions := [emptyRecord base ⟨.pin, .channel 0, 0, ⟨0, 0⟩⟩ 1], events := [⟨255, 3, .host, ⟨0, 0⟩⟩] }

theorem test_wit_takes :
    base.report.completions = [] ∧ base.report.events = [] ∧
      ({ base with report := records } : State).report.completions = emptyRecord base ⟨.pin, .channel 0, 0, ⟨0, 0⟩⟩ 1 :: [] ∧
      ({ base with report := records } : State).report.events = ⟨255, 3, .host, ⟨0, 0⟩⟩ :: [] ∧
      (sending (some .events)).mgmt.phase = .response ∧ (sending (some .events)).mgmt.pendingTake = some .events ∧
      (sending (some .events)).mgmt.pendingReset = false := by decide +kernel
theorem test_wit_ranges :
    rangeGood 0x80000000 0x80000000 ∧ rangeGood 0xFFFFF000 0x1000 ∧ ¬ rangeGood 0 0x800 ∧ ¬ rangeGood 0x1000 0x2000 := by
  decide +kernel
theorem test_wit_windows :
    base.decoder.windows[(15 : WindowId)].enabled = false ∧ base.decoder.windows[(0 : WindowId)].enabled = true ∧
      15 < (16 : Byte).toNat ∧ 3 < (4 : Byte).toNat ∧ 1 < (2 : Byte).toNat ∧ 7 < (8 : Byte).toNat := by decide +kernel
theorem test_wit_settings :
    1 ≤ (4095 : BitVec 16).toNat ∧ (4095 : BitVec 16).toNat ≤ 4095 ∧ 4095 < (4096 : BitVec 16).toNat ∧ (0 : BitVec 16).toNat = 0 ∧
      8 < (9 : Byte).toNat ∧ 3 < (4 : Byte).toNat := by decide +kernel
theorem test_wit_reads :
    base.link.history.length ≤ 8 ∧ base.ready.length ≤ 8 ∧ base.heldList.length ≤ 8 ∧ (511 : BitVec 16).toNat ≤ 511 ∧
      511 < (512 : BitVec 16).toNat ∧
      (base.queue.entries.filter (fun e => e.group = 1))[(0 : BitVec 16).toNat]? = some (entry 0x1000 .collecting) ∧
      (base.queue.entries.filter (fun e => e.group = 1)).length ≤ (1 : BitVec 16).toNat := by decide +kernel
theorem test_wit_set_group :
    configGood { GroupConfig.reset with quota := 512, interval := 16777215, delay := 16777215, repeatCount := 65535 } ∧
      configGood { GroupConfig.reset with quota := 1, interval := 1 } ∧ base.groups[(0 : GroupId)].state = .disabled ∧
      base.groups[(1 : GroupId)].state = .collecting ∧ running.groups[(1 : GroupId)].state = .releasing ∧ inCommand running ∧
      (full.queue.entries.filter (fun e => e.group = 1)).length = 2 ∧ inCommand full ∧
      held.queue.held.map (·.group) = some 1 ∧ inCommand held := by decide +kernel
theorem test_wit_bad_config :
    7 < (8 : Byte).toNat ∧ 1 < (2 : Byte).toNat ∧ 15 < (16 : Byte).toNat ∧ (0 : BitVec 24).toNat = 0 ∧
      (0 : BitVec 16).toNat = 0 ∧ 512 < (513 : BitVec 16).toNat := by decide +kernel
theorem test_wit_group_states :
    base.queue.held.map (·.group) ≠ some 1 ∧ (written full (cyc 0x1008 .write .normal) 0).group = 1 ∧
      held.groups[(1 : GroupId)].state = .collecting ∧ faulted.groups[(1 : GroupId)].state = .faulted ∧ inCommand faulted ∧
      base.groups[(1 : GroupId)].state ≠ .faulted ∧ running.groups[(1 : GroupId)].state ∉ [.disabled, .collecting, .faulted] := by
  decide +kernel
theorem test_wit_local_frames :
    wellFormatted .trigger 1 ∧ wellFormatted .setup 8 ∧ (2 : Byte).toNat ∉ [1, 4, 5, 6] ∧ (0 : Byte).toNat ∉ [1, 4, 5, 6] ∧ (2 : Byte) ≠ 0 ∧
      (255 : Byte).toNat ∉ [1, 4, 5, 6] ∧ 8 < (9 : Byte).toNat ∧ 3 < (4 : Byte).toNat := by decide +kernel
theorem test_wit_causes :
    inCommand base ∧ ({ base with mgmt := ⟨.trailing, [], [], none, 0, none, true, true⟩ } : State).mgmt.pendingReset = true :=
  ⟨rfl, rfl⟩
theorem test_wit_refusal_record :
    inCommand refusing ∧ refusing.report.refusal = none ∧
      (refused refusing (cyc 0 .write .normal) .defaultRefuse none).report.refusal =
        some ⟨⟨0, .write, .normal, ⟨true, false, false, false⟩⟩, .defaultRefuse, none, false⟩ ∧
      inCommand (refused refusing (cyc 0 .write .normal) .defaultRefuse none) := by decide +kernel
theorem test_wit_refusal_after_clearing :
    ∃ t, exec .clearRefusal refusing = .next t ∧ canArrive t ∧ refusedBy t (cyc 0 .write .normal) .defaultRefuse none := by
  refine ⟨_, rfl, by decide +kernel, ?_⟩
  exact ⟨(by decide +kernel : ∀ i, ¬ contains refusing i (cyc 0 .write .normal)), rfl⟩
theorem test_wit_reset_all :
    inCommand base ∧ ({ base with mgmt := ⟨.trailing, [], [], none, 0, none, true, true⟩ } : State).mgmt.pendingReset = true :=
  ⟨rfl, rfl⟩

end Sys2Proof.Tests
end

section
/-! PROOFS. The facts that statements about whole commands share: how a command message is answered, and what follows an event, in the
words of the statements. -/

namespace Sys2Proof.Machine

open Sys2Proof.Claims

/-! ### Command messages -/

/-- A command message in COMMAND is answered with the state and the reply that its own action makes. -/
theorem answers_of_settle {s u : State} {i : Instr} {act : State → State × Reply} {status : Status} {results : List Byte}
    (hc : inCommand s) (he : exec i s = .next (s.settle i act)) (ha : act s = (u, ⟨status, results⟩)) :
    answers s i u status results := by
  unfold answers
  rw [he, s.settle_command i act hc, ha]
  rfl

/-! ### What follows an event -/

/-- The host path's request waits exactly where the statements' hostRequest names it. -/
theorem State.hostWaiting_eq (s : State) : s.hostWaiting = (hostRequest s).isSome := by
  unfold State.hostWaiting hostRequest
  cases s.upstream.host with
  | none => rfl
  | some h => cases hc : h.claim <;> simp [hc]

/-- The engine's request waits exactly where the statements' engineRequest names it. -/
theorem State.engineWaiting_eq (s : State) : s.engineWaiting = (engineRequest s).isSome := by
  unfold State.engineWaiting engineRequest
  split <;> simp_all

/-- A waiting host request is the host path's cycle. -/
theorem hostRequest_some {s : State} {h : HostCycle} (hr : hostRequest s = some h) : s.upstream.host = some h :=
  (Option.filter_eq_some_iff.1 hr).1

/-- A waiting engine request is the running group's. -/
theorem engineRequest_some {s : State} {g : GroupId} {stopping : Bool} (hr : engineRequest s = some (g, stopping)) :
    s.engine.phase = .running g stopping .waiting := by
  unfold engineRequest at hr
  split at hr <;> simp_all

/-- The host path's downstream cycle, in the statements' words. -/
theorem HostCycle.downstream_eq (h : HostCycle) : h.downstream = hostDownstream h.cycle h.route := by
  unfold HostCycle.downstream hostDownstream
  cases h.route <;> rfl

/-- The grant to the host path, in the statements' words. -/
theorem State.grantHost_eq (s : State) (h : HostCycle) (hh : s.upstream.host = some h) : s.grantHost = hostGranted s h := by
  simp only [State.grantHost, hh, HostCycle.downstream_eq]
  rfl

/-- The group's batch, in the statements' words. -/
theorem State.batchOf_eq (s : State) (g : GroupId) : s.batchOf g = s.queue.entries.filter (fun e => inBatch g e) := by
  unfold State.batchOf
  congr 1
  funext e
  exact Bool.eq_iff_iff.2 (by simp only [Entry.inBatch, inBatch, Bool.and_eq_true, beq_iff_eq, decide_eq_true_eq])

/-- The next entry of a group's batch, in the statements' words. -/
theorem State.nextEntry_eq (s : State) (g : GroupId) : s.nextEntry g = entryToWrite s g := by
  unfold State.nextEntry entryToWrite
  rw [← State.batchOf_eq]
  split <;> simp_all [List.head?_eq_getElem?]

/-- The grant to the engine, in the statements' words. -/
theorem State.grantEngine_eq (s : State) (g : GroupId) (stopping : Bool) (hp : s.engine.phase = .running g stopping .waiting) :
    s.grantEngine = engineGranted s g stopping := by
  simp only [State.grantEngine, hp, engineGranted, State.nextEntry_eq]
  cases entryToWrite s g <;> rfl

/-- The grant decision, in the statements' words (R92). -/
theorem State.arbitrate_eq (s : State) : s.arbitrate = grants s := by
  by_cases hp : s.arbiter.port = .free
  case neg =>
    rw [s.arbitrate_closed hp]
    unfold grants
    split <;> simp_all
  cases hh : hostRequest s with
  | none =>
    cases he : engineRequest s with
    | none =>
      rw [s.arbitrate_quiet (by simp [State.engineWaiting_eq, he]) (by simp [State.hostWaiting_eq, hh])]
      simp [grants, hp, hh, he]
    | some r =>
      rw [s.arbitrate_engine hp (by simp [State.engineWaiting_eq, he]) (by simp [State.hostWaiting_eq, hh]),
        s.grantEngine_eq r.1 r.2 (engineRequest_some he)]
      simp [grants, hp, hh, he]
  | some h =>
    cases he : engineRequest s with
    | none =>
      rw [s.arbitrate_host hp (by simp [State.engineWaiting_eq, he]) (by simp [State.hostWaiting_eq, hh]),
        s.grantHost_eq h (hostRequest_some hh)]
      simp [grants, hp, hh, he]
    | some r =>
      rw [s.arbitrate_both hp (by simp [State.engineWaiting_eq, he]) (by simp [State.hostWaiting_eq, hh]),
        s.grantHost_eq h (hostRequest_some hh), s.grantEngine_eq r.1 r.2 (engineRequest_some he)]
      simp [grants, hp, hh, he]

/-- The record of a group that the engine takes, in the statements' words (R60). -/
theorem Group.take_eq (s : State) (r : Group) : r.take s.now = started s r := by
  unfold Group.take started
  split
  · rfl
  · cases hm : r.config.mode <;> simp [State.now]

/-- The idle engine's take, in the statements' words (R76). -/
theorem State.takeHead_eq (s : State) : s.takeHead = headTaken s := by
  by_cases hp : s.engine.phase = .idle
  · cases hr : s.ready with
    | nil =>
      rw [s.takeHead_empty hr]
      simp only [headTaken, hp, hr]
    | cons g rest =>
      have ht : headTaken s =
          { withGroup s g (started s s.groups[g]) with
            ready := rest, engine := { s.engine with phase := .running g false .waiting } } := by
        simp only [headTaken, hp, hr]
      rw [s.takeHead_taken g rest hp hr, ht, ← Group.take_eq]
      rfl
  · rw [s.takeHead_busy hp]
    unfold headTaken
    split
    · next hidle _ => exact absurd hidle hp
    · rfl

/-- What the model does at the end of an event is what the statements say follows it (R76, R92). -/
theorem State.work_eq (s : State) : s.work = afterwards s := by
  rw [State.work, State.takeHead_eq, State.arbitrate_eq, afterwards]

/-! ### A change of the inhibit sources -/

/-- A set of groups that enter a state: their records alone change. -/
theorem State.enterAll_eq (s : State) (l : List GroupId) (st : GroupState) :
    s.enterAll l st =
      { s with groups := Vector.ofFn fun g => if g ∈ l then { s.groups[g] with state := st } else s.groups[g] } := by
  induction l generalizing s with
  | nil =>
    simp [State.enterAll]
  | cons a l ih =>
    have hstep : s.enterAll (a :: l) st = (s.updGroup a (Group.enter st)).enterAll l st := rfl
    rw [hstep, ih]
    show State.mk .. = State.mk ..
    congr 1
    ext i hi : 1
    simp only [Vector.getElem_ofFn, Fin.getElem_fin, State.updGroup_get, List.mem_cons]
    by_cases ha : (⟨i, hi⟩ : GroupId) = a
    · subst ha; simp [Group.enter]
    · simp [ha]

/-- Effective inhibit is set where the source set is not the empty one. -/
theorem InhibitSet.any_eq (i : InhibitSet) : i.any = true ↔ i ≠ ⟨false, false, false, false⟩ := by
  obtain ⟨link, linkLoss, pin, host⟩ := i
  simp [InhibitSet.any, Decidable.or_iff_not_imp_left]

/-- Effective inhibit becoming set moves the running group whose request waits and then the READY groups (R84, R138). -/
theorem State.inhibitSet_eq (s : State) : (s.raise .inhibitChange).inhibitSet = withheld s := by
  unfold State.inhibitSet withheld moved
  cases he : engineRequest s with
  | none =>
    have hi : (s.raise .inhibitChange).inhibitEngine = s.raise .inhibitChange := by
      unfold State.inhibitEngine
      split <;> simp_all [engineRequest]
    simp only [hi, State.enterAll_eq]
    rfl
  | some r =>
    have hp := engineRequest_some (g := r.1) (stopping := r.2) he
    have hi : (s.raise .inhibitChange).inhibitEngine =
        { (((s.raise .inhibitChange).setPhase .idle).enterAll [r.1] .held) with heldList := s.heldList ++ [r.1] } := by
      simp only [State.inhibitEngine, State.raise_engine, hp]
      rfl
    simp only [hi, State.enterAll_eq]
    show State.mk .. = State.mk ..
    congr 1
    · ext i hi : 1
      by_cases hg : (⟨i, hi⟩ : GroupId) = r.1 <;> by_cases hr : (⟨i, hi⟩ : GroupId) ∈ s.ready <;>
        simp [hg, hr]
    · simp

/-- Effective inhibit becoming clear moves the HELD groups, and the idle engine takes the head (R139). -/
theorem State.inhibitClear_eq (s : State) : (s.raise .inhibitChange).inhibitClear = letGo s := by
  unfold State.inhibitClear letGo
  rw [State.work_eq, State.enterAll_eq]
  rfl

/-- A change of the sources, in the statements' words (R137). -/
theorem State.changeSources_eq (s : State) (i : InhibitSet) : s.changeSources i = sourcesBecome s i := by
  have hbefore : s.inhibited = true ↔ s.inhibit.sources ≠ ⟨false, false, false, false⟩ := s.inhibit.sources.any_eq
  simp only [sourcesBecome, ← hbefore, ← i.any_eq]
  cases hb : s.inhibited <;> cases ha : i.any
  · rw [s.changeSources_same i (hb.trans ha.symm)]; rfl
  · rw [s.changeSources_set i hb ha, State.inhibitSet_eq]; rfl
  · rw [s.changeSources_clear i hb ha, State.inhibitClear_eq]; rfl
  · rw [s.changeSources_same i (hb.trans ha.symm)]; rfl

end Sys2Proof.Machine
end

section
/-! PROOFS. The bus path: what the decode makes of a cycle, and what each decision answers (Chapters 1 and 2). -/

namespace Sys2Proof.Machine

open Sys2Proof.Claims

/-! ### The windows that contain a cycle -/

/-- The windows that match a cycle's word are those that contain it (R4). -/
theorem State.mem_matching (s : State) (c : UCycle) (i : WindowId) : i ∈ s.matching (wordAddress c.addr) ↔ contains s i c := by
  have hi : ∀ j : WindowId, j ∈ windowIds := by decide
  simp [State.matching, hi i, Window.contains, contains, word, wordAddress, and_assoc]

/-- No window is matched twice. -/
theorem State.matching_nodup (s : State) (a : Addr) : (s.matching a).Nodup :=
  List.Nodup.filter _ (by decide)

/-- No window contains the cycle. -/
theorem State.matching_nil (s : State) (c : UCycle) (h : ∀ i, ¬ contains s i c) : s.matching (wordAddress c.addr) = [] :=
  List.eq_nil_iff_forall_not_mem.2 fun i hi => h i ((s.mem_matching c i).1 hi)

/-- One window alone contains the cycle. -/
theorem State.matching_single (s : State) (c : UCycle) (i : WindowId) (h : ∀ j, contains s j c ↔ j = i) :
    s.matching (wordAddress c.addr) = [i] :=
  List.perm_singleton.1 <| (List.perm_ext_iff_of_nodup (s.matching_nodup _) (List.nodup_singleton i)).2 fun j => by
    rw [s.mem_matching, h, List.mem_singleton]

/-! ### The decision -/

/-- No window contains the cycle, and the default policy is PASS (R7). -/
theorem State.decide_defaultPass (s : State) (c : UCycle) (h : ∀ i, ¬ contains s i c) (hp : s.decoder.policy = .pass) :
    s.decide c = .passThrough none := by
  simp only [State.decide, s.matching_nil c h, hp]

/-- No window contains the cycle, and the default policy is REFUSE (R7). -/
theorem State.decide_defaultRefuse (s : State) (c : UCycle) (h : ∀ i, ¬ contains s i c) (hp : s.decoder.policy = .refuse) :
    s.decide c = .refused .defaultRefuse none := by
  simp only [State.decide, s.matching_nil c h, hp]

/-- Two windows contain the cycle: it is refused as an overlap (R8). -/
theorem State.decide_overlap (s : State) (c : UCycle) (i j : WindowId) (hij : i ≠ j) (hi : contains s i c)
    (hj : contains s j c) : s.decide c = .refused .overlap none := by
  rw [← s.mem_matching] at hi hj
  unfold State.decide
  split <;> simp_all

/-- The one window that contains the cycle turns its class away (R9). -/
theorem State.decide_class (s : State) (c : UCycle) (i : WindowId) (h : ∀ j, contains s j c ↔ j = i)
    (hf : s.decoder.windows[i].filter = .privilegedOnly) (hc : c.cls = .normal) : s.decide c = .refused .cls (some i) := by
  simp only [State.decide, s.matching_single c i h, hf, hc, and_self, if_true]

/-- The one window that contains the cycle lets its class pass: its kind decides (R10 to R12). -/
theorem State.decide_admitted (s : State) (c : UCycle) (i : WindowId) (h : admittedBy s i c) :
    s.decide c = s.decideByKind c i := by
  obtain ⟨hi, hcls⟩ := h
  have hno : ¬ (s.decoder.windows[i].filter = .privilegedOnly ∧ c.cls = .normal) := by
    rintro ⟨hf, hn⟩
    rcases hcls with hany | hpriv
    · exact absurd (hany.symm.trans hf) (by decide)
    · exact absurd (hpriv.symm.trans hn) (by decide)
  simp only [State.decide, s.matching_single c i hi, if_neg hno]

/-- A cycle that the rules refuse is decided so, with the reason and the window they name (R7 to R11). -/
theorem State.decide_refused (s : State) (c : UCycle) (reason : RefusalReason) (w : Option WindowId)
    (h : refusedBy s c reason w) : s.decide c = .refused reason w := by
  unfold refusedBy at h
  split at h
  · obtain ⟨hno, hp⟩ := h
    exact s.decide_defaultRefuse c hno hp
  · obtain ⟨i, j, hij, hi, hj⟩ := h
    exact s.decide_overlap c i j hij hi hj
  · obtain ⟨hi, hf, hc⟩ := h
    exact s.decide_class c _ hi hf hc
  · obtain ⟨ha, hk, hc⟩ := h
    rw [s.decide_admitted c _ ha]
    simp only [State.decideByKind, hk, hc]
  · obtain ⟨ha, hk⟩ := h
    rw [s.decide_admitted c _ ha]
    simp only [State.decideByKind, hk]
  · obtain ⟨ha, hk, hc, hg⟩ := h
    rw [s.decide_admitted c _ ha]
    simp only [State.decideByKind, hk, hc, hg, if_true]
  · exact h.elim

/-- A cycle that the rules pass through is decided so (R7, R10, R12). -/
theorem State.decide_passThrough (s : State) (c : UCycle) (w : Option WindowId) (h : passesThrough s c w) :
    s.decide c = .passThrough w := by
  cases w with
  | none =>
    obtain ⟨hno, hp⟩ := h
    exact s.decide_defaultPass c hno hp
  | some i =>
    obtain ⟨ha, hk⟩ := h
    rw [s.decide_admitted c i ha]
    unfold State.decideByKind
    rcases hk with hk | ⟨hk, hc⟩ | ⟨hk, hc, hv⟩
    · simp only [hk]
    · simp only [hk, hc]
    · simp only [hk, hc, hv]

/-- The staged write that a window makes of a cycle, in the statements' words (R11). -/
theorem UCycle.staged_eq (s : State) (c : UCycle) (i : WindowId) : c.staged i s.decoder.windows[i] = written s c i := by
  unfold UCycle.staged written
  cases s.decoder.windows[i].merge <;> rfl

/-- A cycle that the rules stage is decided so (R11). -/
theorem State.decide_staged (s : State) (c : UCycle) (i : WindowId) (h : stagedThrough s c i) :
    s.decide c = .staged (written s c i) := by
  obtain ⟨ha, hk, hc, hg⟩ := h
  rw [s.decide_admitted c i ha, ← UCycle.staged_eq]
  simp only [State.decideByKind, hk, hc, hg, if_false]

/-- A cycle that the rules make a forwarding read is decided so (R12). -/
theorem State.decide_forwarding (s : State) (c : UCycle) (i : WindowId) (h : forwardedThrough s c i) :
    s.decide c = .forwarding i s.decoder.windows[i].group := by
  obtain ⟨ha, hk, hc, hv⟩ := h
  rw [s.decide_admitted c i ha]
  simp only [State.decideByKind, hk, hc, hv]

/-! ### The cycle is received -/

/-- A cycle that can arrive is received, with nothing on the U-port until its response, and routed by its decode. -/
theorem exec_cycle {s : State} (c : UCycle) (h : canArrive s) :
    exec (cycle c) s = .next (s.beginCycle.routeCycle c (s.decide c)) := by
  obtain ⟨hr, hq, hu⟩ := h
  have hb : s.upstreamBusy = false := by simp [State.upstreamBusy, hq, hu]
  show execUpstreamCycle c.addr c.kind c.cls c.lanes c.data s = _
  simp [execUpstreamCycle, hr, hb]

/-- A received cycle that is answered at once leaves nothing but its answer. -/
theorem State.beginCycle_answer {s : State} (h : canArrive s) (r : UResponse) : s.beginCycle.answer r = answered s r := by
  simp only [State.beginCycle, State.answer, answered, h.2.2]

/-- Lanes are empty where none is enabled. -/
theorem lanesEmpty_iff (c : UCycle) : lanesEmpty c.lanes = true ↔ noLane c := by
  obtain ⟨_, _, _, ⟨l0, l1, l2, l3⟩, _⟩ := c
  simp [lanesEmpty, noLane, and_assoc]

/-- The refusal record after a refusal, in the statements' words (R15). -/
theorem captureRefusal_eq (s : State) (c : UCycle) (reason : RefusalReason) (w : Option WindowId) :
    captureRefusal s.report.refusal c.refused reason w = recorded s c reason w := by
  unfold captureRefusal recorded
  cases s.report.refusal with
  | none => rfl
  | some old => rfl

/-- The ERROR of a refusal, in the statements' words (R13). -/
theorem errorResponse_eq (c : UCycle) : errorResponse c.kind = errorFor c := by
  unfold errorResponse errorFor
  cases c.kind <;> rfl

/-- A refused cycle that no host waits for any more: ERROR, the cause and the record, and nothing else (R13). -/
theorem State.refuse_eq (s : State) (c : UCycle) (reason : RefusalReason) (w : Option WindowId) (h : s.upstream.host = none) :
    s.refuse c.refused reason w = refused s c reason w := by
  unfold State.refuse refused
  rw [← captureRefusal_eq, ← errorResponse_eq]
  simp only [State.answer, State.raise, h]
  rfl

/-! ### Refused cycles and cycles without a lane -/

/-- The answer to a cycle with no lane (R2). -/
theorem emptyLaneResponse_eq (kind : CycleKind) :
    emptyLaneResponse kind = .done (if kind = .read then some ⟨0, 0, 0, 0⟩ else none) := by
  cases kind <;> rfl

/-- A cycle with no lane that is not refused is answered at once, whatever path its decode selects (R2). -/
theorem State.routeCycle_noLane (s : State) (c : UCycle) (d : Decision) (hl : noLane c)
    (hd : ∀ reason w, d ≠ .refused reason w) : s.routeCycle c d = s.answer (emptyLaneResponse c.kind) := by
  have he := (lanesEmpty_iff c).2 hl
  cases d with
  | refused reason w => exact absurd rfl (hd reason w)
  | passThrough w => simp only [State.routeCycle, he, if_true]
  | staged w => simp only [State.routeCycle, he, if_true]
  | forwarding i g => simp only [State.routeCycle, he, if_true]

/-- Settles O22: the decode of a refused cycle names the refusal, and a cycle with no lane is answered whatever its path. -/
theorem refusedAndEmptyCyclesAreAnsweredAtOnce : Obligations.RefusedAndEmptyCyclesAreAnsweredAtOnce := by
  constructor
  · intro s c reason w ha hr
    rw [exec_cycle c ha, s.decide_refused c reason w hr]
    show Host.Outcome.next (s.beginCycle.refuse c.refused reason w) = _
    rw [s.beginCycle.refuse_eq c reason w ha.2.2]
    rfl
  · intro s c ha hl hd
    have hnot : ∀ reason w, s.decide c ≠ .refused reason w := by
      rcases hd with ⟨w, hp⟩ | ⟨i, hs | hf⟩
      · simp [s.decide_passThrough c w hp]
      · simp [s.decide_staged c i hs]
      · simp [s.decide_forwarding c i hf]
    rw [exec_cycle c ha, State.routeCycle_noLane _ c _ hl hnot, State.beginCycle_answer ha, emptyLaneResponse_eq]

/-! ### The forwarding lookup -/

/-- A search from the tail finds what the last element that has something to find holds. -/
theorem findSome?_reverse_append {α β : Type} (f : α → Option β) (l m : List α) (a : α) (b : β) (ha : f a = some b)
    (hm : ∀ x ∈ m, f x = none) : (l ++ a :: m).reverse.findSome? f = some b := by
  have hn : m.reverse.findSome? f = none := List.findSome?_eq_none_iff.2 fun x hx => hm x (List.mem_reverse.1 hx)
  simp [List.findSome?_append, hn, ha]

/-- What the rules find on a lane is what the lookup finds there (R38). -/
theorem lookupLane_of_finds {s : State} {g : GroupId} {a : Addr} {lane : LaneBytes → Option Byte} {found : Option Byte}
    (h : finds s g a lane found) :
    lookupLane (s.queue.entries.filter (fun e => e.group == g && e.word == a)) lane = found := by
  unfold lookupLane
  cases found with
  | none =>
    refine List.findSome?_eq_none_iff.2 fun x hx => ?_
    obtain ⟨hmem, hx⟩ := List.mem_filter.1 (List.mem_reverse.1 hx)
    simp only [Bool.and_eq_true, beq_iff_eq] at hx
    exact h x hmem hx.1 hx.2
  | some b =>
    obtain ⟨before, e, after, hq, hg, hw, hb, hafter⟩ := h
    have he : (e.group == g && e.word == a) = true := by simp [hg, hw]
    rw [hq, List.filter_append, List.filter_cons, if_pos he]
    refine findSome?_reverse_append (fun e => lane e.bytes) _ _ e b hb fun x hx => ?_
    obtain ⟨hmem, hx⟩ := List.mem_filter.1 hx
    simp only [Bool.and_eq_true, beq_iff_eq] at hx
    exact hafter x hmem hx.1 hx.2

/-- What the rules find on the four lanes is what the lookup finds (R38). -/
theorem State.lookup_of_findsAll {s : State} {g : GroupId} {a : Addr} {found : LaneBytes} (h : findsAll s g a found) :
    s.lookup g a = found := by
  obtain ⟨h0, h1, h2, h3⟩ := h
  simp only [State.lookup, lookupLane_of_finds h0, lookupLane_of_finds h1, lookupLane_of_finds h2, lookupLane_of_finds h3]

/-- A lane is uncovered: the lookup covers not all four. -/
theorem fullCover_none (b : LaneBytes) (h : b.l0 = none ∨ b.l1 = none ∨ b.l2 = none ∨ b.l3 = none) : fullCover b = none := by
  unfold fullCover
  split
  · simp_all
  · rfl

/-! ### Pass-through cycles and forwarding reads -/

/-- The host path's request, made by a cycle just received: it waits, and a FREE port is granted (R91). -/
theorem State.beginCycle_requestHost (s : State) (c : UCycle) (w : Option WindowId) (r : Route) :
    s.beginCycle.requestHost c w r = grants { s with upstream := ⟨some ⟨c, w, r, .waiting⟩, none⟩ } := by
  rw [State.requestHost, State.arbitrate_eq]
  rfl

/-- A cycle that takes a route goes to the host path with it (R16, R39). -/
theorem State.routeCycle_route (s : State) (c : UCycle) (w : Option WindowId) (r : Route) (hl : ¬ noLane c)
    (hr : takesRoute s c w r) : s.beginCycle.routeCycle c (s.decide c) = s.beginCycle.requestHost c w r := by
  have he := mt (lanesEmpty_iff c).1 hl
  cases r with
  | passThrough =>
    rw [s.decide_passThrough c w hr]
    simp only [State.routeCycle, if_neg he]
  | forwarding found =>
    obtain ⟨i, rfl, hf, hfound, hnone⟩ := hr
    have hlook : s.beginCycle.lookup s.decoder.windows[i].group (wordAddress c.addr) = found :=
      State.lookup_of_findsAll (s := s.beginCycle) hfound
    rw [s.decide_forwarding c i hf]
    simp only [State.routeCycle, if_neg he, State.forwardRead, hlook, fullCover_none found hnone]

/-- Settles O23: both routes end in the one request of the host path, and a full cover in the lookup's own bytes. -/
theorem readsAndPassThroughTakeTheirRoute : Obligations.ReadsAndPassThroughTakeTheirRoute := by
  constructor
  · intro s c w r ha hl hr
    rw [exec_cycle c ha, s.routeCycle_route c w r hl hr, s.beginCycle_requestHost]
  · intro s c i d ha hl hf hfound
    have he := mt (lanesEmpty_iff c).1 hl
    have hlook : s.beginCycle.lookup s.decoder.windows[i].group (wordAddress c.addr) = ⟨some d.l0, some d.l1, some d.l2, some d.l3⟩ :=
      State.lookup_of_findsAll (s := s.beginCycle) hfound
    rw [exec_cycle c ha, s.decide_forwarding c i hf, ← State.beginCycle_answer ha]
    simp only [State.routeCycle, if_neg he, State.forwardRead, hlook, fullCover]

/-! ### Staged writes -/

/-- The model's test for a merge, in the statements' words (R26). -/
theorem StagedWrite.mergesInto_iff (w : StagedWrite) (e : Entry) : w.mergesInto e = true ↔ mayMerge w e := by
  simp only [StagedWrite.mergesInto, Entry.inCollecting, mayMerge, Bool.and_eq_true, beq_iff_eq]
  tauto

/-- Bytes laid over others, lane by lane (R27). -/
theorem overlay_eq (w : StagedWrite) (e : Entry) : { e with bytes := overlay w.bytes e.bytes } = merged w e := by
  simp only [overlay, merged, Option.or_eq_bif, Bool.cond_eq_ite]

/-- Space exists, in the statements' words (R24). -/
theorem State.spaceFor_iff (s : State) (g : GroupId) : s.spaceFor g = true ↔ space s g := by
  have hcount : s.entryCount g = (s.queue.entries.filter (fun e => e.group = g)).length := by
    rw [State.entryCount, List.countP_eq_length_filter]
    rfl
  simp only [State.spaceFor, space, hcount, Bool.and_eq_true, decide_eq_true_eq]
  rfl

/-- A staged write with a lane is settled by the queue (R26). -/
theorem exec_staged {s : State} {c : UCycle} {i : WindowId} (ha : canArrive s) (hl : ¬ noLane c) (hs : stagedThrough s c i) :
    exec (cycle c) s = .next (s.beginCycle.stageWrite (written s c i)) := by
  rw [exec_cycle c ha, s.decide_staged c i hs]
  simp only [State.routeCycle, if_neg (mt (lanesEmpty_iff c).1 hl)]

/-- A staged write merges into the first entry it may merge into, whatever the space. -/
theorem State.stageWrite_merge (s : State) (w : StagedWrite) (before : List Entry) (e : Entry) (after : List Entry)
    (hq : s.queue.entries = before ++ e :: after) (he : mayMerge w e) (hb : ∀ x ∈ before, ¬ mayMerge w x) :
    s.stageWrite w =
      { s with queue := { s.queue with entries := before ++ merged w e :: after } }.answer (.done none) := by
  have hm : s.mergedEntries w = some (before ++ merged w e :: after) := by
    rw [State.mergedEntries, hq, ← overlay_eq]
    exact updateFirst_append _ (fun e => { e with bytes := overlay w.bytes e.bytes }) before e after
      ((w.mergesInto_iff e).2 he) fun x hx => Bool.eq_false_iff.2 fun h => hb x hx ((w.mergesInto_iff x).1 h)
  simp only [State.stageWrite, hm]

/-- A staged write with no entry to merge into is appended where space exists, and finds no space elsewhere. -/
theorem State.stageWrite_noMerge (s : State) (w : StagedWrite) (hno : ∀ x ∈ s.queue.entries, ¬ mayMerge w x) :
    s.stageWrite w = if space s w.group then s.append w else s.noSpace w := by
  have hm : s.mergedEntries w = none :=
    updateFirst_none _ _ _ fun x hx => Bool.eq_false_iff.2 fun h => hno x hx ((w.mergesInto_iff x).1 h)
  simp only [State.stageWrite, hm, State.spaceFor_iff]

/-- Settles O24: the queue's scan finds the entry that the rules name, and the append is the model's own. -/
theorem stagedWritesMergeOrJoinTheTail : Obligations.StagedWritesMergeOrJoinTheTail := by
  intro s c i ha hl hs
  rw [exec_staged ha hl hs]
  constructor
  · intro before e after hq he hb
    rw [s.beginCycle.stageWrite_merge _ before e after hq he hb]
    simp only [State.beginCycle, State.answer, answered, ha.2.2]
  · intro hno hspace
    rw [s.beginCycle.stageWrite_noMerge _ hno, if_pos (show space s.beginCycle _ from hspace)]
    simp only [State.append, State.beginCycle, State.answer, answered, ha.2.2]
    rfl

end Sys2Proof.Machine
end

section
/-! PROOFS. The end of the host path's cycle at the downstream port, the writers of the window table and the straps, and the resets. -/

namespace Sys2Proof.Machine

open Sys2Proof.Claims

/-! ### The end of a host-path cycle -/

/-- What memory's DONE answers the host, in the statements' words (R16, R39). -/
theorem HostCycle.doneResponse_eq (h : HostCycle) (data : WordData) :
    h.doneResponse data = hostAnswer h.cycle data h.route := by
  obtain ⟨⟨_, kind, _, _, _⟩, _, route, _⟩ := h
  cases route with
  | passThrough => cases kind <;> rfl
  | forwarding covered => rfl

/-- Memory's DONE is handed to the host path: its cycle is over and answered. -/
theorem State.hostDone_eq (s : State) (h : HostCycle) (data : WordData) (hh : s.upstream.host = some h) :
    s.hostDone data = { s with upstream := ⟨none, some (hostAnswer h.cycle data h.route)⟩ } := by
  simp only [State.hostDone, hh, HostCycle.doneResponse_eq]
  rfl

/-- A failure at the port refuses the host path's cycle, naming the window of its decode (R14). -/
theorem State.hostFailed_eq (s : State) (h : HostCycle) (reason : RefusalReason) (hh : s.upstream.host = some h) :
    s.hostFailed reason = refused s h.cycle reason h.window := by
  simp only [State.hostFailed, hh]
  rw [State.refuse_eq _ _ _ _ s.clearHost_upstream_host]
  rfl

/-- Settles O29: each ending is handed to the host path at the port's new state, and what waits follows. -/
theorem hostCyclesEndInDoneOrRefusal : Obligations.HostCyclesEndInDoneOrRefusal := by
  intro s h o hp hh
  refine ⟨fun data => ?_, ?_, fun hdue => ?_⟩
  · show Host.Outcome.next (s.takeResponse (.done data)) = _
    simp only [State.takeResponse, hp, State.handResponse, (s.setPort .free).hostDone_eq h data hh, State.work_eq]
    rfl
  · show Host.Outcome.next (s.takeResponse .error) = _
    simp only [State.takeResponse, hp, State.handResponse, (s.setPort .free).hostFailed_eq h _ hh, State.work_eq]
    rfl
  · show Host.Outcome.next s.takeTimeout = _
    simp only [State.takeTimeout, hp, hdue, if_true, State.handTimeout,
      (s.setPort (.recovering o.recover)).hostFailed_eq h _ hh, State.work_eq]
    rfl

/-! ### Resets -/

/-- Settles O4: each value is read off State.reset and the reset values of the blocks. -/
theorem resetLeavesTabledValues : Obligations.ResetLeavesTabledValues := by
  refine ⟨fun i => ?_, rfl, fun g => ?_, rfl, rfl, rfl, fun g => ?_, rfl, rfl, rfl, rfl, rfl, rfl, rfl, rfl, rfl, rfl, rfl, rfl⟩
  · exact Vector.getElem_replicate i.isLt
  · exact Vector.getElem_replicate g.isLt
  · exact Vector.getElem_replicate g.isLt

/-- Settles O43: a pin reset writes every block, the release of RST the samples alone. -/
theorem pinResetsSetEveryBlock : Obligations.PinResetsSetEveryBlock := by
  intro s
  refine ⟨rfl, ?_, fun stn dpol hr => ?_, fun hinh hsel hpend hclk => ?_⟩
  · simp [State.dataOut, Mgmt.byteSent, State.reset, Mgmt.idleAt]
  · show execRstReleased stn dpol s = _
    simp only [execRstReleased, hr, if_true]
    rfl
  · rw [hinh, hsel, hpend, hclk]
    rfl

/-- A reset command answers a waiting cycle RETRY, in the statements' words (R17, R35, R40). -/
theorem State.retryUpstream_eq (s : State) : s.retryUpstream = { s with upstream := retried s } := by
  have hbusy : s.upstreamBusy = true ↔ s.queue.held ≠ none ∨ s.upstream.host ≠ none := by
    simp [State.upstreamBusy, Option.isSome_iff_ne_none]
  unfold State.retryUpstream retried
  simp only [hbusy]
  split <;> rfl

/-- A reset command drains the port and empties the engine, in the statements' words (R98). -/
theorem State.drainPort_eq (s : State) :
    s.drainPort =
      { s with engine := emptied s, arbiter := { s.arbiter with port := drained s.arbiter.port, burst := 0 } } := by
  unfold State.drainPort emptied drained
  cases s.arbiter.port <;> rfl

/-- Settles O60: the release runs the reset, which writes every block but what it retries and drains. -/
theorem resetAllTakesEffectAtTheRelease : Obligations.ResetAllTakesEffectAtTheRelease := by
  intro s
  refine ⟨fun hc => answers_of_settle hc rfl rfl, fun hp => ?_⟩
  show execSelectReleased s = _
  simp only [execSelectReleased, hp, if_true, State.resetAll, State.retryUpstream_eq, State.drainPort_eq]
  rfl

/-! ### The writers of the window table and of the straps -/

/-- What the windows and the straps hold: the window table, the latch of DPOL and the station code. -/
def State.fixed (s : State) : Vector Window 16 × Bool × Byte := (s.decoder.windows, s.decoder.dpolLatch, s.link.station)

/-- A state with the same decoder and the same station code has the same windows and straps. -/
theorem State.fixed_eq {s t : State} (hd : t.decoder = s.decoder) (hl : t.link.station = s.link.station) : t.fixed = s.fixed := by
  rw [State.fixed, State.fixed, hd, hl]

/-- A message whose action keeps the windows and the straps keeps them. -/
theorem State.settle_fixed (s : State) (i : Instr) (act : State → State × Reply) (h : (act s).1.fixed = s.fixed) :
    (s.settle i act).fixed = s.fixed := by
  unfold State.settle
  split
  · exact h
  · rfl
  · rfl
  · rfl

/-- A command with an argument keeps the windows and the straps where it does so for each value. -/
theorem State.withArg_fixed {α : Type} (s : State) (arg : Option α) (act : α → State × Reply)
    (h : ∀ a, (act a).1.fixed = s.fixed) : (s.withArg arg act).1.fixed = s.fixed := by
  cases arg with
  | none => rfl
  | some a => exact h a

/-- The commands that can write a window record or a strap latch. -/
def writesFixed : Instr → Bool
  | .setWindow _ _ _ _ _ _ _ _ => true
  | .setWindowEnable _ _ => true
  | .rstAsserted => true
  | .rstReleased _ _ => true
  | .selectReleased => true
  | _ => false

/-- What an event leaves, where its one next state keeps the windows and the straps. -/
theorem fixed_of_next {s t u : State} (h : (.next u : Host.Outcome State Fault Refusal) = .next t)
    (hd : u.decoder = s.decoder) (hl : u.link.station = s.link.station) : t.fixed = s.fixed := by
  cases h
  exact State.fixed_eq hd hl

/-- What a message leaves, where its action keeps the windows and the straps. -/
theorem fixed_of_settle {s t : State} {i : Instr} {act : State → State × Reply}
    (h : (.next (s.settle i act) : Host.Outcome State Fault Refusal) = .next t) (hact : (act s).1.fixed = s.fixed) :
    t.fixed = s.fixed := by
  cases h
  exact s.settle_fixed i act hact

/-- What an event leaves, where both of its two possible next states keep the windows and the straps. -/
theorem fixed_of_ite {s t u v : State} {p : Prop} [Decidable p]
    (h : (if p then .next u else .next v : Host.Outcome State Fault Refusal) = .next t) (hu : u.fixed = s.fixed)
    (hv : v.fixed = s.fixed) : t.fixed = s.fixed := by
  split at h
  · cases h; exact hu
  · cases h; exact hv

/-- LOCAL_FRAME keeps the windows and the straps, whatever it dispatches. -/
theorem State.localFrame_fixed (s : State) (kind profile argument : Byte) :
    (s.localFrame kind profile argument).1.fixed = s.fixed :=
  s.withArg_fixed _ _ fun _ => s.withArg_fixed _ _ fun _ => s.withArg_fixed _ _ fun _ =>
    State.fixed_eq (by simp) (by simp)

/-- A received cycle writes no window and no strap. -/
theorem execUpstreamCycle_fixed {s t : State} {addr : Addr} {kind : CycleKind} {cls : CycleClass} {lanes : LaneSet} {data : WordData}
    (h : execUpstreamCycle addr kind cls lanes data s = .next t) : t.fixed = s.fixed := by
  unfold execUpstreamCycle at h
  split at h
  · exact fixed_of_next h rfl rfl
  · split at h
    · cases h
    · exact fixed_of_next h (by simp) (by simp)

/-- Every other command keeps the windows and the straps. -/
theorem exec_fixed {c : Instr} {s t : State} (h : exec c s = .next t) (hc : writesFixed c = false) : t.fixed = s.fixed := by
  cases c
  case setWindow | setWindowEnable | rstAsserted | rstReleased | selectReleased => cases hc
  -- The events that are one operation each.
  case downstreamResponse | downstreamTimeout | recoveryExpiry | holdExpiry | delayExpiry | intervalExpiry | late |
      carrierPresent | carrierLoss | frameReceived | lineTransition =>
    exact fixed_of_next h (by simp) (by simp)
  -- The events that the state of the part lets happen or not.
  case upstreamCycle => exact execUpstreamCycle_fixed h
  case tick => exact fixed_of_ite h rfl (State.fixed_eq (by simp) (by simp))
  case trigEdge => exact fixed_of_ite h rfl (State.fixed_eq (by simp) (by simp))
  case inhChange => exact fixed_of_ite h rfl (State.fixed_eq (by simp) (by simp))
  case startMarker => exact fixed_of_ite h (State.fixed_eq (by simp) (by simp)) rfl
  case selectAsserted =>
    change execSelectAsserted s = _ at h
    unfold execSelectAsserted at h
    split at h
    · exact fixed_of_next h rfl rfl
    · split at h <;> exact fixed_of_next h rfl rfl
  case responseSent =>
    change execResponseSent s = _ at h
    unfold execResponseSent at h
    split at h <;> exact fixed_of_next h (by simp) (by simp)
  -- The messages with no argument.
  case checkError | badCommand | getPath | getTiming | getEpoch | getLink | getStatus | setMask | clearCauses | clearRefusal |
      resetAll =>
    exact fixed_of_settle h rfl
  case resetDatapath => exact fixed_of_settle h (State.fixed_eq (by simp) (by simp))
  case takeCompletion | takeEvent | getRefusal =>
    refine fixed_of_settle h ?_
    split <;> rfl
  case arm groupSet =>
    exact fixed_of_settle h (foldl_keeps State.fixed (State.armNamed groupSet)
      (fun _ _ => State.fixed_eq (by simp) (by simp)) groupIds s)
  -- The messages whose arguments are tested first.
  case getWindow | getGroup | clearMissed =>
    exact fixed_of_settle h (s.withArg_fixed _ _ fun _ => rfl)
  case setHostInhibit =>
    exact fixed_of_settle h (s.withArg_fixed _ _ fun _ => State.fixed_eq (by simp) (by simp))
  case enableGroup | disableGroup | resumeSkip =>
    refine fixed_of_settle h (s.withArg_fixed _ _ fun _ => ?_)
    split <;> exact State.fixed_eq (by simp) (by simp)
  case setPath =>
    refine fixed_of_settle h (s.withArg_fixed _ _ fun _ => ?_)
    split <;> rfl
  case purgeCollecting =>
    refine fixed_of_settle h (s.withArg_fixed _ _ fun _ => ?_)
    unfold State.purgeCollecting
    split <;> exact State.fixed_eq (by simp) (by simp)
  case purgeAll =>
    refine fixed_of_settle h (s.withArg_fixed _ _ fun _ => ?_)
    unfold State.purgeAll
    split <;> exact State.fixed_eq (by simp) (by simp)
  case resumeRetry =>
    refine fixed_of_settle h (s.withArg_fixed _ _ fun _ => ?_)
    split
    · split <;> exact State.fixed_eq (by simp) (by simp)
    · rfl
  case readEntry =>
    refine fixed_of_settle h (s.withArg_fixed _ _ fun _ => ?_)
    split
    · split <;> rfl
    · rfl
  case setGroup =>
    refine fixed_of_settle h (s.withArg_fixed _ _ fun _ => s.withArg_fixed _ _ fun _ => ?_)
    split
    · rfl
    · split <;> exact State.fixed_eq (by simp) (by simp)
  case setTiming =>
    exact fixed_of_settle h (s.withArg_fixed _ _ fun _ => s.withArg_fixed _ _ fun _ => s.withArg_fixed _ _ fun _ =>
      s.withArg_fixed _ _ fun _ => State.fixed_eq (by simp) (by simp))
  case localFrameTrigger | localFrameEvent | localFrameSetup | localFrameStop | localFrameEpoch =>
    exact fixed_of_settle h (s.localFrame_fixed _ _ _)

/-- A message leaves the windows and the straps as they were, or as its action leaves them. -/
theorem State.settle_fixed_or (s : State) (i : Instr) (act : State → State × Reply) :
    (s.settle i act).fixed = s.fixed ∨ (s.settle i act).fixed = (act s).1.fixed := by
  unfold State.settle
  split
  · exact .inr rfl
  · exact .inl rfl
  · exact .inl rfl
  · exact .inl rfl

/-- A window argument is the window's number. -/
theorem windowArg_some {n : Byte} {i : WindowId} (h : windowArg n = some i) : n.toNat = i.val := by
  unfold windowArg at h
  split at h
  · cases h; rfl
  · cases h

/-- Where the windows and the straps are as they were, nothing is to be said of what changed them. -/
theorem State.unchanged_of_fixed {s t : State} (h : t.fixed = s.fixed) {P : WindowId → Prop} {Q : Prop} :
    (∀ i : WindowId, t.decoder.windows[i] ≠ s.decoder.windows[i] → P i) ∧
      (t.link.station ≠ s.link.station ∨ t.decoder.dpolLatch ≠ s.decoder.dpolLatch → Q) := by
  simp only [State.fixed, Prod.mk.injEq] at h
  obtain ⟨hw, hd, hl⟩ := h
  simp [hw, hd, hl]

/-- A write of one window record changes no other record and no strap. -/
theorem State.setWindowRecord_changes {s t : State} {j : WindowId} {w : Window} (h : t.fixed = (s.setWindowRecord j w).fixed) :
    (∀ i : WindowId, t.decoder.windows[i] ≠ s.decoder.windows[i] → i = j) ∧ t.link.station = s.link.station ∧
      t.decoder.dpolLatch = s.decoder.dpolLatch := by
  simp only [State.fixed, Prod.mk.injEq] at h
  obtain ⟨hw, hd, hl⟩ := h
  refine ⟨fun i hi => ?_, hl, hd⟩
  by_contra hij
  have hne : j.val ≠ i.val := fun he => hij (Fin.ext he.symm)
  exact hi (by simp [hw, hne])

/-- SET_WINDOW writes at most the record of its own window, which is disabled (R18). -/
theorem exec_setWindow_writes {s t : State} {n : Byte} {base size : BitVec 32} {kind filter group view merge : Byte}
    (h : exec (.setWindow n base size kind filter group view merge) s = .next t) :
    t.fixed = s.fixed ∨ ∃ j w, n.toNat = j.val ∧ s.decoder.windows[j].enabled = false ∧
      t.fixed = (s.setWindowRecord j w).fixed := by
  obtain rfl := Host.Outcome.next.inj h
  rcases s.settle_fixed_or _ _ with hs | hs
  · exact .inl hs
  rw [hs]
  cases hn : windowArg n with
  | none => exact .inl rfl
  | some j =>
    cases hw : windowOfArgs base size kind filter group view merge with
    | none => exact .inl rfl
    | some w =>
      cases he : s.decoder.windows[j].enabled with
      | true => exact .inl (by simp only [he, State.withArg_some, if_true])
      | false =>
        exact .inr ⟨j, w, windowArg_some hn, he, by
          simp only [he, State.withArg_some, Bool.false_eq_true, if_false]⟩

/-- SET_WINDOW_ENABLE writes at most the record of its own window (R19). -/
theorem exec_setWindowEnable_writes {s t : State} {n v : Byte} (h : exec (.setWindowEnable n v) s = .next t) :
    t.fixed = s.fixed ∨ ∃ j w, n.toNat = j.val ∧ t.fixed = (s.setWindowRecord j w).fixed := by
  obtain rfl := Host.Outcome.next.inj h
  rcases s.settle_fixed_or _ _ with hs | hs
  · exact .inl hs
  rw [hs]
  cases hn : windowArg n with
  | none => exact .inl rfl
  | some j =>
    cases hv : yesNoArg v with
    | none => exact .inl rfl
    | some b => exact .inr ⟨j, _, windowArg_some hn, rfl⟩

/-- Settles O20: what the five writers can change, every other command keeping the windows and the straps. -/
theorem windowsAndStrapsHaveFewWriters : Obligations.WindowsAndStrapsHaveFewWriters := by
  intro c s t h
  cases hc : writesFixed c
  case false => exact State.unchanged_of_fixed (exec_fixed h hc)
  case true =>
    cases c
    case setWindow n base size kind filter group view merge =>
      rcases exec_setWindow_writes h with hf | ⟨j, w, hn, hdis, hf⟩
      · exact State.unchanged_of_fixed hf
      · obtain ⟨hone, hl, hd⟩ := State.setWindowRecord_changes hf
        refine ⟨fun i hi => ?_, by simp [hl, hd]⟩
        obtain rfl := hone i hi
        exact .inl ⟨n, base, size, kind, filter, group, view, merge, rfl, hn, hdis⟩
    case setWindowEnable n v =>
      rcases exec_setWindowEnable_writes h with hf | ⟨j, w, hn, hf⟩
      · exact State.unchanged_of_fixed hf
      · obtain ⟨hone, hl, hd⟩ := State.setWindowRecord_changes hf
        refine ⟨fun i hi => ?_, by simp [hl, hd]⟩
        obtain rfl := hone i hi
        exact .inr (.inl ⟨n, v, rfl, hn⟩)
    case rstAsserted =>
      obtain rfl := Host.Outcome.next.inj h
      exact ⟨fun i _ => .inr (.inr (.inl rfl)), fun hne => (hne.elim (· rfl) (· rfl)).elim⟩
    case rstReleased stn dpol =>
      change execRstReleased stn dpol s = _ at h
      unfold execRstReleased at h
      split at h
      · next hr =>
        obtain rfl := Host.Outcome.next.inj h
        exact ⟨fun i hi => absurd rfl hi, fun _ => ⟨stn, dpol, rfl, hr⟩⟩
      · exact State.unchanged_of_fixed (fixed_of_next h rfl rfl)
    case selectReleased =>
      change execSelectReleased s = _ at h
      unfold execSelectReleased at h
      split at h
      · next hp =>
        obtain rfl := Host.Outcome.next.inj h
        exact ⟨fun i _ => .inr (.inr (.inr ⟨rfl, hp⟩)), fun hne => (hne.elim (· rfl) (· rfl)).elim⟩
      · exact State.unchanged_of_fixed (fixed_of_next h rfl rfl)
    all_goals cases hc

end Sys2Proof.Machine
end

section
/-! PROOFS. What the argument codes mean and what the result bytes are, in the words of the statements, and the commands of the windows,
the path and the timing settings (Section 9.3, R175 to R178). -/

namespace Sys2Proof.Machine

open Sys2Proof.Claims

/-! ### Argument codes -/

/-- A small number in a byte is that number. -/
theorem num_toNat {n : Nat} (h : n < 256) : (num n).toNat = n := by
  simp [num, BitVec.toNat_ofNat, Nat.mod_eq_of_lt h]

/-! Each value's code is read back as the value, and a byte past the codes as none (R176). -/

theorem windowArg_num (i : WindowId) : windowArg (num i.val) = some i := by
  have h := num_toNat (n := i.val) (by omega)
  simp [windowArg, h]

theorem windowArg_bad {n : Byte} (h : 15 < n.toNat) : windowArg n = none := by
  simp only [windowArg, dif_neg (show ¬ n.toNat < 16 by omega)]

theorem groupArg_num (g : GroupId) : groupArg (num g.val) = some g := by
  have h := num_toNat (n := g.val) (by omega)
  simp [groupArg, h]

theorem groupArg_bad {n : Byte} (h : 7 < n.toNat) : groupArg n = none := by
  simp only [groupArg, dif_neg (show ¬ n.toNat < 8 by omega)]

theorem profileArg_num (p : Profile) : profileArg (num p.val) = some p := by
  have h := num_toNat (n := p.val) (by omega)
  simp [profileArg, h]

theorem profileArg_bad {n : Byte} (h : 3 < n.toNat) : profileArg n = none := by
  simp only [profileArg, dif_neg (show ¬ n.toNat < 4 by omega)]

theorem channelArg_num (c : Channel) : channelArg (num (c.val + 1)) = some c := by
  have h := num_toNat (n := c.val + 1) (by omega)
  simp [channelArg, h]

theorem channelArg_bad {n : Byte} (h : n.toNat = 0 ∨ 8 < n.toNat) : channelArg n = none := by
  simp only [channelArg, dif_neg (show ¬ (1 ≤ n.toNat ∧ n.toNat ≤ 8) by omega)]

theorem yesNoArg_yesNo (b : Bool) : yesNoArg (yesNo b) = some b := by cases b <;> rfl

theorem policyArg_code (p : Policy) : policyArg (code [.pass, .refuse] p) = some p := by cases p <;> rfl

theorem windowKindArg_code (k : WindowKind) : windowKindArg (code windowKinds k) = some k := by cases k <;> rfl

theorem classFilterArg_code (f : ClassFilter) : classFilterArg (code [.any, .privilegedOnly] f) = some f := by cases f <;> rfl

theorem readViewArg_code (v : ReadView) : readViewArg (code [.memory, .forward] v) = some v := by cases v <;> rfl

theorem mergePolicyArg_code (m : MergePolicy) : mergePolicyArg (code [.keep, .merge] m) = some m := by cases m <;> rfl

theorem tickSourceArg_code (t : TickSource) : tickSourceArg (code [.localRef, .linkRef] t) = some t := by cases t <;> rfl

section
variable {b : Byte}

theorem yesNoArg_bad (h : 1 < b.toNat) : yesNoArg b = none := by
  unfold yesNoArg; split <;> simp_all

theorem policyArg_bad (h : 1 < b.toNat) : policyArg b = none := by
  unfold policyArg; split <;> simp_all

theorem windowKindArg_bad (h : 3 < b.toNat) : windowKindArg b = none := by
  unfold windowKindArg; split <;> simp_all

theorem classFilterArg_bad (h : 1 < b.toNat) : classFilterArg b = none := by
  unfold classFilterArg; split <;> simp_all

theorem readViewArg_bad (h : 1 < b.toNat) : readViewArg b = none := by
  unfold readViewArg; split <;> simp_all

theorem mergePolicyArg_bad (h : 1 < b.toNat) : mergePolicyArg b = none := by
  unfold mergePolicyArg; split <;> simp_all

theorem tickSourceArg_bad (h : 1 < b.toNat) : tickSourceArg b = none := by
  unfold tickSourceArg; split <;> simp_all

end

/-- The size and base that R18 accepts. -/
theorem rangeGood_iff (base size : BitVec 32) : (sizeGood size && base.toNat % size.toNat == 0) = true ↔ rangeGood base size := by
  have hpow : ∀ k : Nat, 2 ^ (12 + k) = 4096 * 2 ^ k := fun k => by rw [pow_add]; norm_num
  simp only [sizeGood, rangeGood, Bool.and_eq_true, List.any_eq_true, beq_iff_eq, hpow]

/-- The arguments of SET_WINDOW that carry a record give that record, disabled (R18). -/
theorem windowOfArgs_code (w : Window) (h : rangeGood w.base w.size) :
    windowOfArgs w.base w.size (code windowKinds w.kind) (code [.any, .privilegedOnly] w.filter) (num w.group.val)
      (code [.memory, .forward] w.view) (code [.keep, .merge] w.merge) = some { w with enabled := false } := by
  simp only [windowOfArgs, (rangeGood_iff _ _).2 h, if_true, windowKindArg_code, classFilterArg_code, groupArg_num,
    readViewArg_code, mergePolicyArg_code]
  rfl

/-- Arguments of SET_WINDOW with one that has no meaning give no record (R18). -/
theorem windowOfArgs_bad {base size : BitVec 32} {kind filter group view merge : Byte}
    (h : ¬ rangeGood base size ∨ 3 < kind.toNat ∨ 1 < filter.toNat ∨ 7 < group.toNat ∨ 1 < view.toNat ∨ 1 < merge.toNat) :
    windowOfArgs base size kind filter group view merge = none := by
  unfold windowOfArgs
  split
  case isFalse => rfl
  case isTrue hr =>
    rcases h with h | h | h | h | h | h
    · exact absurd ((rangeGood_iff _ _).1 hr) h
    · simp [windowKindArg_bad h]
    · simp [classFilterArg_bad h]
    · simp [groupArg_bad h]
    · simp [readViewArg_bad h]
    · simp [mergePolicyArg_bad h]

/-! ### Windows and settings -/

/-- A command whose argument has no meaning is answered BAD_ARGUMENT and changes nothing, whatever it tests before or after. -/
theorem State.withArg_bad {α : Type} {s : State} {arg : Option α} {act : α → State × Reply}
    (h : arg = none ∨ ∀ a, act a = (s, ⟨.badArgument, []⟩)) : s.withArg arg act = (s, ⟨.badArgument, []⟩) := by
  cases arg with
  | none => rfl
  | some a => exact h.resolve_left (Option.some_ne_none a) a

/-- Settles O47: each argument byte is read as the value it codes, or as none. -/
theorem windowCommandsWriteOneRecord : Obligations.WindowCommandsWriteOneRecord := by
  intro s hc
  refine ⟨fun i w hr => ⟨fun hdis => ?_, fun hen => ?_⟩, fun n base size kind filter group view merge hbad => ?_,
    fun i b => ?_, fun n v hbad => ?_⟩
  · refine answers_of_settle hc rfl ?_
    simp only [windowArg_num, windowOfArgs_code w hr, State.withArg_some, hdis, Bool.false_eq_true, if_false]
    rfl
  · refine answers_of_settle hc rfl ?_
    simp only [windowArg_num, windowOfArgs_code w hr, State.withArg_some, hen, if_true]
    rfl
  · refine answers_of_settle hc rfl ?_
    rcases hbad with hn | hbad
    · exact State.withArg_bad (.inl (windowArg_bad hn))
    · exact State.withArg_bad (.inr fun i => State.withArg_bad (.inl (windowOfArgs_bad hbad)))
  · refine answers_of_settle hc rfl ?_
    simp only [windowArg_num, yesNoArg_yesNo, State.withArg_some]
    rfl
  · refine answers_of_settle hc rfl ?_
    rcases hbad with hn | hv
    · exact State.withArg_bad (.inl (windowArg_bad hn))
    · exact State.withArg_bad (.inr fun i => State.withArg_bad (.inl (yesNoArg_bad hv)))

/-- A change of the tick source, in the statements' words: the supplier and the holdover follow it, and a holdover that begins is
raised (R123, R126). -/
theorem State.setTickSource_eq (s : State) (src : TickSource) :
    s.setTickSource src =
      { s with
        time := if src = s.time.source then s.time
          else { s.time with
            source := src
            supplier := if src = .linkRef ∧ s.link.state = .up then .linkRef else .localRef
            holdover := Decidable.decide (src = .linkRef ∧ ¬ s.link.state = .up) }
        report := if src = .linkRef ∧ s.time.source = .localRef ∧ ¬ s.link.state = .up then s.report.with .timebaseHoldover
          else s.report } := by
  unfold State.setTickSource
  by_cases hsame : src = s.time.source
  · rw [if_pos hsame, if_pos hsame, if_neg (by rintro ⟨hl, hr, -⟩; rw [hl, hr] at hsame; cases hsame)]
  · rw [if_neg hsame, if_neg hsame]
    cases src with
    | localRef => rfl
    | linkRef =>
      have hs : s.time.source = .localRef := by cases hs : s.time.source <;> simp_all
      by_cases hup : s.link.state = .up
      · simp only [hup, not_true, and_false, if_true, if_false, and_self, decide_false]
      · simp only [hup, hs, not_false_eq_true, and_false, and_self, if_true, if_false, decide_true]
        rfl

/-- INHIBIT_ON_LINK_LOSS is written, and from set to clear takes LINKLOSS away, in the statements' words (R134). -/
theorem State.setOnLinkLoss_eq (s : State) (b : Bool) :
    s.setOnLinkLoss b =
      if s.inhibit.onLinkLoss = true ∧ b = false then
        sourcesBecome { s with inhibit := { s.inhibit with onLinkLoss := b } } { s.inhibit.sources with linkLoss := false }
      else { s with inhibit := { s.inhibit with onLinkLoss := b } } := by
  simp only [State.setOnLinkLoss, State.changeSources_eq]
  cases s.inhibit.onLinkLoss <;> cases b <;> rfl

/-- Settles O48: the four values are read from their codes, and each setting is written by its own operation. -/
theorem pathAndTimingSettingsAreWritten : Obligations.PathAndTimingSettingsAreWritten := by
  intro s hc
  refine ⟨fun p hold d burst h1 h2 => ?_, fun p hold d burst hbad => ?_, fun src c p b => ?_, fun src c p b hbad => ?_⟩
  · refine answers_of_settle hc rfl ?_
    simp only [policyArg_code, State.withArg_some, h1, h2, and_self, if_true]
    rfl
  · refine answers_of_settle hc rfl ?_
    rcases hbad with hp | hd
    · exact State.withArg_bad (.inl (policyArg_bad hp))
    · exact State.withArg_bad (.inr fun p => by simp only [if_neg (show ¬ (1 ≤ d.toNat ∧ d.toNat ≤ 4095) by omega)]; rfl)
  · refine answers_of_settle hc rfl ?_
    simp only [tickSourceArg_code, channelArg_num, profileArg_num, yesNoArg_yesNo, State.withArg_some, State.setOnLinkLoss_eq,
      State.setTickSource_eq]
    rfl
  · refine answers_of_settle hc rfl ?_
    rcases hbad with hsrc | hzero | hbig | hp | hb
    · exact State.withArg_bad (.inl (tickSourceArg_bad hsrc))
    · exact State.withArg_bad (.inr fun src => State.withArg_bad (.inl (channelArg_bad (.inl hzero))))
    · exact State.withArg_bad (.inr fun src => State.withArg_bad (.inl (channelArg_bad (.inr hbig))))
    · exact State.withArg_bad (.inr fun src => State.withArg_bad (.inr fun c => State.withArg_bad (.inl (profileArg_bad hp))))
    · exact State.withArg_bad (.inr fun src => State.withArg_bad (.inr fun c => State.withArg_bad (.inr fun p =>
        State.withArg_bad (.inl (yesNoArg_bad hb)))))

end Sys2Proof.Machine
end

section
/-! PROOFS. The layouts of results in bytes, in the words of the statements, and the commands that read (R175 to R178). -/

namespace Sys2Proof.Machine

open Sys2Proof.Claims

/-! ### Numbers, masks and optional items -/

/-- A number in k bytes, most significant first. -/
theorem bytesOf_eq (k n : Nat) : bytesOf k n = big k n := by
  induction k with
  | zero => rfl
  | succ k ih =>
    rw [bytesOf, ih, big, big, List.range_succ_eq_map, List.map_cons, List.map_map]
    refine congrArg₂ List.cons (by simp [num]) (List.map_congr_left fun j _ => ?_)
    simp [Nat.sub_sub, Nat.add_comm]

/-- A byte of a word is the quotient by the bytes below it. -/
theorem byteAt_eq {w : Nat} (x : BitVec w) (k : Nat) : byteAt x k = num (x.toNat / 256 ^ k) := by
  apply BitVec.eq_of_toNat_eq
  simp [byteAt, num, BitVec.extractLsb'_toNat, Nat.shiftRight_eq_div_pow, pow_mul]

/-- Two bytes of a 16-bit value. -/
theorem split2_eq (x : BitVec 16) : split2 x = big 2 x.toNat := by
  simp [split2, big, byteAt_eq, List.range_succ]

/-- Four bytes of a 32-bit value. -/
theorem split4_eq (x : BitVec 32) : split4 x = big 4 x.toNat := by
  simp [split4, big, byteAt_eq, List.range_succ]

/-- One bit below a mask: the mask is doubled and the bit added. -/
theorem codeBool_or_shift (b : Bool) (n : Nat) : codeBool b ||| num n <<< 1 = num ((if b then 1 else 0) + 2 * n) := by
  apply BitVec.eq_of_getLsbD_eq
  intro i hi
  cases i with
  | zero =>
    simp only [num, BitVec.getLsbD_or, BitVec.getLsbD_shiftLeft, BitVec.getLsbD_ofNat, Nat.testBit_zero]
    cases b <;> simp [codeBool]
  | succ i =>
    have hhalf : ((if b then 1 else 0) + 2 * n) / 2 = n := by split <;> omega
    have hlow : (codeBool b).getLsbD (i + 1) = false := by cases b <;> simp [codeBool]
    have hi' : i < 8 := by omega
    simp only [num, BitVec.getLsbD_or, BitVec.getLsbD_shiftLeft, BitVec.getLsbD_ofNat, hlow, Nat.testBit_succ, hhalf]
    simp [hi, hi']

/-- A presence byte is a mask of its items, bit 0 for the first. -/
theorem presence_eq (l : List Bool) : presence l = bits l := by
  induction l with
  | nil => rfl
  | cons b l ih =>
    rw [presence, ih]
    exact codeBool_or_shift b _

/-- The mask of an inhibit source set. -/
theorem InhibitSet.mask_eq (i : InhibitSet) : i.mask = bits [i.link, i.linkLoss, i.pin, i.host] := by
  obtain ⟨link, linkLoss, pin, host⟩ := i
  revert link linkLoss pin host
  decide

/-- An optional item at its full width. -/
theorem optBytes_eq {α : Type} (width : Nat) (enc : α → List Byte) (o : Option α) :
    optBytes width enc o = optional width (o.map enc) := by
  cases o <;> rfl

/-- An optional item of one byte. -/
theorem optByte_eq {α : Type} (enc : α → Byte) (o : Option α) : optByte enc o = optional 1 (o.map fun a => [enc a]) :=
  optBytes_eq 1 _ o

/-- A time stamp in seven bytes. -/
theorem Stamp.bytes_eq (t : Stamp) : t.bytes = stampBytes t := by
  rw [Stamp.bytes, bytesOf_eq, stampBytes]

/-- A list of at most eight groups in nine bytes: a place past its end is zero. -/
theorem groupListBytes_eq (l : List GroupId) (h : l.length ≤ 8) : groupListBytes l = listBytes l := by
  refine congrArg (List.cons _) (List.ext_getElem (by simp; omega) fun n _ hn => ?_)
  simp only [List.length_map, List.length_range] at hn
  by_cases hl : n < l.length
  · rw [List.getElem_append_left (by simpa using hl), List.getElem_map, List.getElem_map, List.getElem_range,
      List.getElem?_eq_getElem hl]
    rfl
  · rw [List.getElem_append_right (by simpa using hl), List.getElem_replicate, List.getElem_map, List.getElem_range,
      List.getElem?_eq_none (Nat.not_lt.1 hl)]
    rfl

/-- The bad results of a quality history, counted. -/
theorem Link.badCount_eq (l : Link) : l.badCount = ((l.history.map fun good => !good).filter id).length := by
  simp [Link.badCount, List.countP_eq_length_filter, List.filter_map]

/-! ### Codes

A value's code is its place in the list of the values (R176). -/

theorem policyCode_eq (p : Policy) : p.code = code [.pass, .refuse] p := by cases p <;> rfl

theorem windowKindCode_eq (k : WindowKind) : k.code = code windowKinds k := by cases k <;> rfl

theorem classFilterCode_eq (f : ClassFilter) : f.code = code [.any, .privilegedOnly] f := by cases f <;> rfl

theorem readViewCode_eq (v : ReadView) : v.code = code [.memory, .forward] v := by cases v <;> rfl

theorem mergePolicyCode_eq (m : MergePolicy) : m.code = code [.keep, .merge] m := by cases m <;> rfl

theorem tickSourceCode_eq (t : TickSource) : t.code = code [.localRef, .linkRef] t := by cases t <;> rfl

theorem originCode_eq (o : Origin) : o.code = code [.link, .pin, .host] o := by cases o <;> rfl

theorem linkStateCode_eq (l : LinkState) : l.code = code [.down, .acquiring, .up] l := by cases l <;> rfl

theorem linkErrorCode_eq (e : LinkError) : e.code = code [.check, .format] e := by cases e <;> rfl

/-! ### The layouts that reads return -/

/-- A window record in 14 bytes (9.6.2). -/
theorem Window.bytes_eq (w : Window) : w.bytes = yesNo w.enabled :: windowBytes w := by
  rw [Window.bytes, windowBytes, split4_eq, split4_eq, windowKindCode_eq, classFilterCode_eq, readViewCode_eq,
    mergePolicyCode_eq]
  rfl

/-- The path settings (R173). -/
theorem State.pathBytes_eq (s : State) :
    s.pathBytes = code [.pass, .refuse] s.decoder.policy ::
      (big 2 s.queue.holdLimit ++ big 2 s.arbiter.dTimeout ++ [num s.arbiter.burstLimit]) := by
  rw [State.pathBytes, bytesOf_eq, bytesOf_eq, policyCode_eq]
  rfl

/-- The timing settings (R174). -/
theorem State.timingBytes_eq (s : State) :
    s.timingBytes = [code [.localRef, .linkRef] s.time.source, num (s.link.localChannel.val + 1), num s.link.localProfile.val,
      yesNo s.inhibit.onLinkLoss] := by
  rw [State.timingBytes, tickSourceCode_eq]
  rfl

/-- The items of GET_EPOCH (R131, R178). -/
theorem State.epochBytes_eq (s : State) : s.epochBytes = epochItems s := by
  have hrecord : (fun e : EpochRecord => e.source.code :: e.stamp.bytes) =
      fun e => code [.link, .pin, .host] e.source :: stampBytes e.stamp := by
    funext e; rw [originCode_eq, Stamp.bytes_eq]
  rw [State.epochBytes, epochItems, presence_eq, bytesOf_eq, optBytes_eq, hrecord, tickSourceCode_eq]
  rfl

/-- The items of GET_LINK (R121, R177, R178). -/
theorem State.linkBytes_eq (s : State) : s.linkBytes = linkItems s := by
  have herror : (fun e : LinkError => [e.code]) = fun e => [code [.check, .format] e] := by
    funext e; rw [linkErrorCode_eq]
  have hexpected : (fun q : BitVec 3 => [q.setWidth 8]) = fun q => [num q.toNat] := by
    funext q
    exact congrArg (fun b : Byte => [b]) (BitVec.eq_of_toNat_eq (by simp [num]))
  rw [State.linkBytes, linkItems, historyBytes, presence_eq, presence_eq, optByte_eq, optByte_eq, herror, hexpected,
    linkStateCode_eq, Link.badCount_eq]
  rfl

/-- The items of GET_STATUS (R160, R178), the lists being lists that the machine can hold. -/
theorem State.statusBytes_eq (s : State) (hr : s.ready.length ≤ 8) (hh : s.heldList.length ≤ 8) :
    s.statusBytes = statusItems s := by
  have herror : (fun e : LinkError => [e.code]) = fun e => [code [.check, .format] e] := by
    funext e; rw [linkErrorCode_eq]
  rw [State.statusBytes, statusItems, presence_eq, optByte_eq, optByte_eq, herror, linkStateCode_eq, bytesOf_eq, split2_eq,
    split2_eq, groupListBytes_eq _ hr, groupListBytes_eq _ hh, ← InhibitSet.mask_eq]
  cases s.engine.phase <;> rfl

/-- Settles O49: each read answers its layout, and its action leaves the state. -/
theorem readsReturnTheSettingsAndTheSummary : Obligations.ReadsReturnTheSettingsAndTheSummary := by
  intro s hc
  refine ⟨fun i => ?_, fun n hn => ?_, ?_, ?_, ?_, fun _ => ?_, fun hr hh => ?_⟩
  · rw [← Window.bytes_eq]
    exact answers_of_settle hc rfl (by rw [windowArg_num]; rfl)
  · exact answers_of_settle hc rfl (State.withArg_bad (.inl (windowArg_bad hn)))
  · rw [← State.pathBytes_eq]
    exact answers_of_settle hc rfl rfl
  · rw [← State.timingBytes_eq]
    exact answers_of_settle hc rfl rfl
  · rw [← State.epochBytes_eq]
    exact answers_of_settle hc rfl rfl
  · rw [← State.linkBytes_eq]
    exact answers_of_settle hc rfl rfl
  · rw [← s.statusBytes_eq hr hh]
    exact answers_of_settle hc rfl rfl

end Sys2Proof.Machine
end

section
/-! PROOFS. The capacity of the queues: what each operation that moves entries or records leaves within its places, and the invariant
of every step (R22, R24, R153, R155). A lemma State.capacityOk.op says that the operation op keeps it, so that a proof about a chain of
operations is the chain itself. -/

namespace Sys2Proof.Machine

open Sys2Proof.Claims

/-! ### Operations that add nothing -/

/-- A group's entry count, read off the groups of the entries. -/
theorem State.entryCount_eq (s : State) (g : GroupId) : s.entryCount g = (s.queue.entries.map Entry.group).count g := by
  rw [State.entryCount, List.count, List.countP_map]
  rfl

/-- No queue has grown: the groups of the entries are some of those before, the quotas are the same, and there are no more
records. -/
theorem State.capacityOk.of_sublist {s t : State} (h : s.capacityOk)
    (he : (t.queue.entries.map Entry.group).Sublist (s.queue.entries.map Entry.group))
    (hq : ∀ g : GroupId, t.groups[g.val].config = s.groups[g.val].config)
    (hc : t.report.completions.length ≤ s.report.completions.length) (hv : t.report.events.length ≤ s.report.events.length) :
    t.capacityOk := by
  obtain ⟨hplaces, hquota, hcompletions, hevents⟩ := h
  refine ⟨?_, fun g => ?_, hc.trans hcompletions, hv.trans hevents⟩
  · simpa using he.length_le.trans (by simpa using hplaces)
  · have hg := hquota g
    rw [State.entryCount_eq] at hg ⊢
    simp only [Fin.getElem_fin, hq] at hg ⊢
    exact (he.count_le g).trans hg

/-- The entries, the quotas and the records are those before. -/
theorem State.capacityOk.of_eq {s t : State} (h : s.capacityOk)
    (he : t.queue.entries = s.queue.entries ∧ (∀ g : GroupId, t.groups[g.val].config = s.groups[g.val].config) ∧
      t.report.completions = s.report.completions ∧ t.report.events = s.report.events) : t.capacityOk := by
  obtain ⟨hentries, hquotas, hcompletions, hevents⟩ := he
  exact h.of_sublist (by rw [hentries]) hquotas (by rw [hcompletions]) (by rw [hevents])

/-- The entries are some of those before, in their order; the quotas and the records are those before. -/
theorem State.capacityOk.of_removal {s t : State} (h : s.capacityOk) (he : t.queue.entries.Sublist s.queue.entries)
    (hg : t.groups = s.groups) (hr : t.report = s.report) : t.capacityOk :=
  h.of_sublist (he.map _) (by simp [hg]) (by rw [hr]) (by rw [hr])

/-- Empty queues are within every quota. -/
theorem State.capacityOk_of_empty {t : State} (he : t.queue.entries = []) (hc : t.report.completions.length ≤ 32)
    (hv : t.report.events.length ≤ 16) : t.capacityOk := by
  refine ⟨by simp [he], fun g => ?_, hc, hv⟩
  simp [State.entryCount, he]

/-- What follows an event moves no entry and no record (R76, R92). -/
theorem State.capacityOk.work {s : State} (h : s.capacityOk) : s.work.capacityOk := h.of_eq (by simp)

/-! ### Records -/

/-- A completion record joins a queue that has a place for it (R153). -/
theorem State.capacityOk.postCompletion {s : State} (h : s.capacityOk) (c : Completion) : (s.postCompletion c).capacityOk := by
  by_cases hroom : s.report.completions.length < 32
  · obtain ⟨hplaces, hquota, -, hevents⟩ := h
    rw [s.postCompletion_room c hroom]
    exact ⟨hplaces, hquota, by simpa using hroom, hevents⟩
  · rw [s.postCompletion_full c (Nat.not_lt.1 hroom)]
    exact h.of_eq (by simp)

/-- An event record joins a queue that has a place for it (R155). -/
theorem State.capacityOk.postEvent {s : State} (h : s.capacityOk) (e : EventRecord) : (s.postEvent e).capacityOk := by
  by_cases hroom : s.report.events.length < 16
  · obtain ⟨hplaces, hquota, hcompletions, -⟩ := h
    rw [s.postEvent_room e hroom]
    exact ⟨hplaces, hquota, hcompletions, by simpa using hroom⟩
  · rw [s.postEvent_full e (Nat.not_lt.1 hroom)]
    exact h.of_eq (by simp)

/-- The end of a TAKE removes a record at most (R157). -/
theorem State.capacityOk.completeTake {s : State} (h : s.capacityOk) : s.completeTake.capacityOk := by
  unfold State.completeTake
  split
  · next q _ => cases q <;> exact h.of_sublist (.refl _) (fun _ => rfl) (by simp [Report.removeHead]) (by simp [Report.removeHead])
  · exact h

/-! ### Entries -/

/-- An append where space exists takes the queue to its places and the group to its quota at most (R22, R24). -/
theorem State.capacityOk.append {s : State} (h : s.capacityOk) (w : StagedWrite) (hs : s.spaceFor w.group = true) :
    (s.append w).capacityOk := by
  obtain ⟨hplaces, hquota, hrecords⟩ := h
  simp only [State.spaceFor, Bool.and_eq_true, decide_eq_true_eq] at hs
  obtain ⟨hroom, hbelow⟩ := hs
  refine ⟨?_, fun g => ?_, hrecords⟩
  · simpa [Config.queuePlaces] using hroom
  · have hcount : (s.append w).entryCount g = s.entryCount g + if w.group = g then 1 else 0 := by
      simp [State.entryCount, List.countP_append, List.countP_cons, StagedWrite.entry]
    rw [hcount]
    show _ ≤ s.groups[g].config.quota
    split
    · next hg => subst hg; exact hbelow
    · exact hquota g

/-- The test for a held write appends only where space exists (R32). -/
theorem State.capacityOk.holdTest {s : State} (h : s.capacityOk) : s.holdTest.capacityOk := by
  cases hw : s.queue.held with
  | none => rwa [s.holdTest_none hw]
  | some w =>
    cases hs : s.spaceFor w.group with
    | true =>
      rw [s.holdTest_space w hw hs]
      exact State.capacityOk.append (s := s.endHold) (h.of_eq (by simp)) w hs
    | false => rwa [s.holdTest_full w hw hs]

/-- A replaced first element keeps what the replacement keeps. -/
theorem updateFirst_map {α β : Type} (p : α → Bool) (f : α → α) (q : α → β) (hf : ∀ a, q (f a) = q a) {l m : List α}
    (h : updateFirst p f l = some m) : m.map q = l.map q := by
  induction l generalizing m with
  | nil => cases h
  | cons a l ih =>
    unfold updateFirst at h
    split at h
    · cases h
      simp [hf]
    · obtain ⟨n, hn, rfl⟩ := Option.map_eq_some_iff.1 h
      simp [ih hn]

/-- A staged write merges into an entry of its group, is appended where space exists, or waits outside the queue (R26). -/
theorem State.capacityOk.stageWrite {s : State} (h : s.capacityOk) (w : StagedWrite) : (s.stageWrite w).capacityOk := by
  unfold State.stageWrite
  split
  · next entries hm =>
    have hgroups : entries.map Entry.group = s.queue.entries.map Entry.group :=
      updateFirst_map w.mergesInto (fun e => { e with bytes := overlay w.bytes e.bytes }) Entry.group (fun _ => rfl) hm
    exact h.of_sublist (by simp [hgroups]) (fun _ => rfl) le_rfl le_rfl
  · split
    · next hs => exact h.append w hs
    · exact h.of_eq (by simp)

/-- A removal of entries, before its test for a held write. -/
theorem State.capacityOk.withoutEntries {s : State} (h : s.capacityOk) (p : Entry → Bool) : (s.withoutEntries p).capacityOk :=
  h.of_removal List.filter_sublist rfl rfl

/-- A removal of entries with its test for a held write (R41). -/
theorem State.capacityOk.removeEntries {s : State} (h : s.capacityOk) (p : Entry → Bool) : (s.removeEntries p).capacityOk :=
  (h.withoutEntries p).holdTest

/-- The removal of an entry whose write has ended (R43). -/
theorem State.capacityOk.removeOldest {s : State} (h : s.capacityOk) (g : GroupId) : (s.removeOldest g).capacityOk :=
  State.capacityOk.holdTest (h.of_removal List.eraseP_sublist rfl rfl)

/-! ### Batches -/

/-- The end of a batch posts its record and removes its entries (R62). -/
theorem State.capacityOk.endBatch {s : State} (h : s.capacityOk) (g : GroupId) (outcome : BatchOutcome) :
    (s.endBatch g outcome).capacityOk := by
  have hremoved := (h.postCompletion (s.completionOf g outcome)).withoutEntries (Entry.inBatch g)
  exact State.capacityOk.holdTest (hremoved.of_eq (by simp))

/-- The end of a repetition ends the batch or goes on with it (R61, R63). -/
theorem State.capacityOk.endRepetition {s : State} (h : s.capacityOk) (g : GroupId) : (s.endRepetition g).capacityOk := by
  have hcounted : (s.updGroup g Group.countRepetition).capacityOk := h.of_eq (by simp)
  unfold State.endRepetition
  dsimp only
  split
  · exact hcounted.endBatch g _
  · exact hcounted.of_eq (by simp)

/-- A passed entry leaves the queue in ONCE and stays in REPEAT. -/
theorem State.capacityOk.passEntry {s : State} (h : s.capacityOk) (g : GroupId) : (s.passEntry g).capacityOk := by
  unfold State.passEntry
  split
  · exact (h.removeOldest g).of_eq (by simp)
  · exact h.of_eq (by simp)

/-- Between entries a batch ends, a repetition ends, or neither (R82). -/
theorem State.capacityOk.betweenEntries {s : State} (h : s.capacityOk) (g : GroupId) (stopping : Bool) :
    (s.betweenEntries g stopping).capacityOk := by
  have hidle : (s.setPhase .idle).capacityOk := h.of_eq (by simp)
  unfold State.betweenEntries
  split
  · unfold State.stopAfterRepetition
    split
    · exact (hidle.endRepetition g).endBatch g _
    · exact hidle.endRepetition g
  · split
    · exact hidle.endBatch g _
    · split <;> exact h.of_eq (by simp)

/-- The end of a release write at the engine (R78 to R83). -/
theorem State.capacityOk.engineEnd {s : State} (h : s.capacityOk) (o : Outstanding) (e : WriteEnd) :
    (s.engineEnd o e).capacityOk := by
  unfold State.engineEnd
  split
  · next g stopping _ =>
    cases e with
    | ok =>
      have hcounted : (s.countOk g).capacityOk := h.of_eq (by simp)
      exact (hcounted.passEntry g).betweenEntries g stopping
    | fault =>
      have hcounted : ((s.raise .releaseFault).updGroup g (Group.countFault o.cycle.addr)).capacityOk := h.of_eq (by simp)
      unfold State.writeFault
      dsimp only
      split
      · exact (hcounted.passEntry g).betweenEntries g stopping
      · split
        · exact State.capacityOk.endBatch (hcounted.of_eq (by simp)) g _
        · exact hcounted.of_eq (by simp)
  · exact h

/-- The end of an empty batch posts its record (R55). -/
theorem State.capacityOk.endEmpty {s : State} (h : s.capacityOk) (g : GroupId) (t : Trigger) : (s.endEmpty g t).capacityOk := by
  have hposted := h.postCompletion (s.emptyCompletion g t)
  exact hposted.of_eq ⟨rfl, by simp, rfl, rfl⟩

/-- A group's cut makes entries BATCH, or posts the record of an empty batch (R54, R55). -/
theorem State.capacityOk.cutGroup {s : State} (h : s.capacityOk) (g : GroupId) (t : Trigger) : (s.cutGroup g t).capacityOk := by
  have hgroup : Entry.group ∘ Entry.cut g = Entry.group := by
    funext e
    unfold Function.comp Entry.cut
    split <;> rfl
  have hcut : ({ s with queue := { s.queue with entries := s.queue.entries.map (Entry.cut g) } }.updGroup g
      (Group.cut t (s.collectingCount g))).capacityOk :=
    h.of_sublist (by simp [hgroup]) (by simp) le_rfl le_rfl
  unfold State.cutGroup
  dsimp only
  split
  · exact hcut.endEmpty g t
  · exact hcut.of_eq (by simp)

/-- A trigger offered to the groups (R51). -/
theorem State.capacityOk.offerTrigger {s : State} (h : s.capacityOk) (t : Trigger) : (s.offerTrigger t).capacityOk := by
  have hone : ∀ u : State, u.capacityOk → ∀ g ∈ groupIds, (State.settleTrigger t u g).capacityOk := by
    intro u hu g _
    unfold State.settleTrigger
    split
    · unfold State.settleMatch
      split
      · exact hu
      · split
        · exact hu.of_eq (by simp)
        · exact hu.cutGroup g t
      all_goals exact hu.of_eq (by simp)
    · exact hu
  exact State.capacityOk.work (List.foldlRecOn groupIds (State.settleTrigger t) h hone)

/-- A group that a STOP reaches ends its batch, is marked, or is left (R147). -/
theorem State.capacityOk.stopGroup {s : State} (h : s.capacityOk) (g : GroupId) : (s.stopGroup g).capacityOk := by
  unfold State.stopGroup
  split
  case h_1 | h_2 => exact h
  case h_3 | h_4 | h_6 | h_7 | h_8 => exact h.endBatch g _
  case h_5 =>
    unfold State.stopAtEngine
    split
    · split
      · split
        · exact State.capacityOk.endBatch (h.of_eq (by simp)) g _
        · exact h.of_eq (by simp)
      · exact h
    · exact h

/-- A STOP (R146). -/
theorem State.capacityOk.stop {s : State} (h : s.capacityOk) (choice : ChannelChoice) (p : Profile) :
    (s.stop choice p).capacityOk := by
  have hone : ∀ u : State, u.capacityOk → ∀ g ∈ groupIds, (State.stopReached choice p u g).capacityOk := by
    intro u hu g _
    unfold State.stopReached
    split
    · exact hu.stopGroup g
    · exact hu
  have hstart : ({ s.raise .stopReceived with groups := s.groups.map (Group.disarmBy choice p) } : State).capacityOk :=
    h.of_eq (by simp)
  exact State.capacityOk.work (List.foldlRecOn groupIds (State.stopReached choice p) hstart hone)

/-! ### Frames -/

/-- A dispatched frame (R114 to R116). -/
theorem State.capacityOk.dispatch {s : State} (h : s.capacityOk) (source : Origin) (a : FrameAction) :
    (s.dispatch source a).capacityOk := by
  cases a with
  | trigger c p => exact h.offerTrigger _
  | event code p => exact (h.postEvent _).offerTrigger _
  | inhibit | uninhibit => exact State.capacityOk.of_eq (t := s.changeSources _) h (by simp)
  | setup choice p => exact State.capacityOk.of_eq (t := s.setup choice p) h (by simp)
  | epoch => exact State.capacityOk.of_eq (t := s.takeEpoch source) h (by simp)
  | stop choice p => exact h.stop choice p

/-- A good frame in UP (R110). -/
theorem State.capacityOk.frameGood {s : State} (h : s.capacityOk) (f : FrameFields) : (s.frameGood f).capacityOk := by
  have htested : ((s.updLink (Link.record true)).sequenceTest f.sequence).capacityOk := h.of_eq (by simp)
  unfold State.frameGood
  dsimp only
  split
  · unfold State.formatAndDispatch
    split
    · exact htested.dispatch _ _
    · exact htested.of_eq (by simp)
  · exact htested

/-- A received frame (R101). -/
theorem State.capacityOk.receiveFrame {s : State} (h : s.capacityOk) (f : LinkFrame) : (s.receiveFrame f).capacityOk := by
  have htaken : (s.updLink (fun l => { l with inFrame := false })).capacityOk := h.of_eq (by simp)
  unfold State.receiveFrame
  split
  · unfold State.settleFrame
    split
    · exact htaken
    · exact htaken.of_eq (by simp)
    · split
      · split
        · exact htaken.frameGood _
        · exact htaken.of_eq (by simp)
      · exact htaken.of_eq (by simp)
  · exact h

/-! ### The downstream port and the tick -/

/-- Memory's response (R94, R96, R99). -/
theorem State.capacityOk.takeResponse {s : State} (h : s.capacityOk) (r : MemResponse) : (s.takeResponse r).capacityOk := by
  unfold State.takeResponse
  split
  · exact h
  · exact h
  · exact h.of_eq (by simp)
  · next source o _ =>
    have hfree : (s.setPort .free).capacityOk := h.of_eq (by simp)
    have hhanded : ((s.setPort .free).handResponse source o r).capacityOk := by
      cases source <;> cases r
      · exact hfree.engineEnd o .ok
      · exact hfree.engineEnd o .fault
      · exact h.of_eq (by simp [State.handResponse])
      · exact h.of_eq (by simp [State.handResponse])
    exact hhanded.of_eq (by simp)

/-- The expiry of the downstream timer (R94, R99). -/
theorem State.capacityOk.takeTimeout {s : State} (h : s.capacityOk) : s.takeTimeout.capacityOk := by
  unfold State.takeTimeout
  split
  · next source o _ =>
    have hclosed : (s.setPort (.recovering o.recover)).capacityOk := h.of_eq (by simp)
    split
    · have hhanded : ((s.setPort (.recovering o.recover)).handTimeout source o).capacityOk := by
        cases source with
        | engine => exact hclosed.engineEnd o .fault
        | host => exact State.capacityOk.of_eq (t := State.hostFailed _ _) hclosed (by simp)
      exact hhanded.of_eq (by simp)
    · exact h
  · split
    · exact h.of_eq (by simp)
    · exact h
  · exact h
  · exact h

/-- The expiry of the recovery timer (R95). -/
theorem State.capacityOk.takeRecovery {s : State} (h : s.capacityOk) : s.takeRecovery.capacityOk := by
  unfold State.takeRecovery
  split
  · split
    · exact h.of_eq (by simp)
    · exact h
  all_goals exact h

/-- The expiries that a tick takes first (R127). -/
theorem State.capacityOk.takeDueExpiries {s : State} (h : s.capacityOk) : s.takeDueExpiries.capacityOk := by
  have hport : s.takeTimeout.takeRecovery.takeHoldExpiry.capacityOk := h.takeTimeout.takeRecovery.of_eq (by simp)
  have hone : ∀ u : State, u.capacityOk → ∀ g ∈ groupIds, (u.takeGroupExpiry g).capacityOk :=
    fun u hu g _ => hu.of_eq (by simp)
  have hgroups : (groupIds.foldl State.takeGroupExpiry s.takeTimeout.takeRecovery.takeHoldExpiry).capacityOk :=
    List.foldlRecOn groupIds State.takeGroupExpiry hport hone
  unfold State.takeDueExpiries
  exact hgroups.of_eq (by simp)

/-! ### Group commands and resets -/

/-- A configuration whose quota is not below the entry count is written (R67, R68). -/
theorem State.capacityOk.configureGroup {s : State} (h : s.capacityOk) (g : GroupId) (c : GroupConfig)
    (hq : s.entryCount g ≤ c.quota) : (s.configureGroup g c).capacityOk := by
  have hwritten : (s.updGroup g (Group.configure c)).capacityOk := by
    obtain ⟨hplaces, hquota, hrecords⟩ := h
    refine ⟨hplaces, fun k => ?_, hrecords⟩
    show s.entryCount k ≤ _
    simp only [Fin.getElem_fin, State.updGroup_get]
    split
    · next hk => subst hk; exact hq
    · exact hquota k
  unfold State.configureGroup
  dsimp only
  split
  · exact hwritten.holdTest
  · exact hwritten

/-- PURGE with scope ALL (R45). -/
theorem State.capacityOk.purgeEntries {s : State} (h : s.capacityOk) (g : GroupId) : (s.purgeEntries g).capacityOk := by
  unfold State.purgeEntries
  split
  · exact ((h.withoutEntries _).endBatch g _).work
  · exact h.removeEntries _

/-- RESUME with SKIP (R87). -/
theorem State.capacityOk.resumeSkip {s : State} (h : s.capacityOk) (g : GroupId) : (s.resumeSkip g).capacityOk := by
  have hpassed := h.passEntry g
  unfold State.resumeSkip
  dsimp only
  split
  · exact (hpassed.endRepetition g).of_eq (by simp)
  · exact hpassed.of_eq (by simp)

/-- RESET_DATAPATH empties the staging queue and keeps the records (R170). -/
theorem State.capacityOk.resetDatapath {s : State} (h : s.capacityOk) : s.resetDatapath.capacityOk := by
  obtain ⟨-, -, hcompletions, hevents⟩ := h
  exact State.capacityOk_of_empty rfl (by simpa using hcompletions) (by simpa using hevents)

/-! ### Commands -/

/-- A message leaves the port alone changed, but for what its action does. -/
theorem State.capacityOk.settle {s : State} (h : s.capacityOk) (i : Instr) (act : State → State × Reply)
    (hact : (act s).1.capacityOk) : (s.settle i act).capacityOk := by
  unfold State.settle
  split
  · exact hact
  all_goals exact h

/-- A command with an argument, where it is so for each value. -/
theorem State.capacityOk.withArg {α : Type} {s : State} (h : s.capacityOk) (arg : Option α) (act : α → State × Reply)
    (hact : ∀ a, (act a).1.capacityOk) : (s.withArg arg act).1.capacityOk := by
  cases arg with
  | none => exact h
  | some a => exact hact a

/-- LOCAL_FRAME (R119). -/
theorem State.capacityOk.localFrame {s : State} (h : s.capacityOk) (kind profile argument : Byte) :
    (s.localFrame kind profile argument).1.capacityOk :=
  h.withArg _ _ fun _ => h.withArg _ _ fun _ => h.withArg _ _ fun _ => h.dispatch _ _

/-- A decoded cycle is handed to its path: only a staged write concerns the queue (R1). -/
theorem State.capacityOk.routeCycle {s : State} (h : s.capacityOk) (c : UCycle) (d : Decision) : (s.routeCycle c d).capacityOk := by
  cases d with
  | refused reason w => exact State.capacityOk.of_eq (t := s.refuse c.refused reason w) h (by simp)
  | passThrough w =>
    simp only [State.routeCycle]
    split <;> exact h.of_eq (by simp)
  | staged w =>
    simp only [State.routeCycle]
    split
    · exact h.of_eq (by simp)
    · exact h.stageWrite w
  | forwarding i g =>
    simp only [State.routeCycle]
    split <;> exact h.of_eq (by simp)

/-- What an event leaves. -/
theorem capacityOk_of_next {t u : State} (h : (.next u : Host.Outcome State Fault Refusal) = .next t) (hu : u.capacityOk) :
    t.capacityOk := by
  cases h
  exact hu

/-- What an event leaves that the state of the part lets happen or not. -/
theorem capacityOk_of_ite {t u v : State} {p : Prop} [Decidable p]
    (h : (if p then .next u else .next v : Host.Outcome State Fault Refusal) = .next t) (hu : u.capacityOk) (hv : v.capacityOk) :
    t.capacityOk := by
  split at h <;> cases h
  · exact hu
  · exact hv

/-- What a message leaves, where its action keeps within the places. -/
theorem State.capacityOk.of_settle {s t : State} (hs : s.capacityOk) {i : Instr} {act : State → State × Reply}
    (h : (.next (s.settle i act) : Host.Outcome State Fault Refusal) = .next t) (hact : (act s).1.capacityOk) : t.capacityOk := by
  cases h
  exact hs.settle i act hact

/-- No command takes a queue over its places or a group over its quota. -/
theorem State.capacityOk.exec {s t : State} (hs : s.capacityOk) {c : Instr} (h : exec c s = .next t) : t.capacityOk := by
  cases c
  -- The bus path and the downstream port.
  case upstreamCycle addr kind cls lanes data =>
    change execUpstreamCycle addr kind cls lanes data s = _ at h
    unfold execUpstreamCycle at h
    split at h
    · exact capacityOk_of_next h hs
    · split at h
      · cases h
      · exact capacityOk_of_next h (State.capacityOk.routeCycle (s := s.beginCycle) hs _ _)
  case downstreamResponse r => exact capacityOk_of_next h (hs.takeResponse r)
  case downstreamTimeout => exact capacityOk_of_next h hs.takeTimeout
  case recoveryExpiry => exact capacityOk_of_next h hs.takeRecovery
  -- Timers, the tick and the timing line.
  case holdExpiry | delayExpiry | intervalExpiry | late | carrierPresent | carrierLoss | lineTransition =>
    exact capacityOk_of_next h (hs.of_eq (by simp))
  case tick => exact capacityOk_of_ite h hs (hs.takeDueExpiries.of_eq (by simp))
  case frameReceived f => exact capacityOk_of_next h (hs.receiveFrame f)
  case startMarker => exact capacityOk_of_ite h ((hs.receiveFrame .truncated).of_eq (by simp)) hs
  -- The pins.
  case trigEdge => exact capacityOk_of_ite h hs (hs.offerTrigger _)
  case inhChange => exact capacityOk_of_ite h (hs.of_eq (by simp)) (hs.of_eq (by simp))
  case rstAsserted => exact capacityOk_of_next h (State.capacityOk_of_empty rfl (Nat.zero_le _) (Nat.zero_le _))
  case rstReleased => exact capacityOk_of_ite h (hs.of_eq (by simp)) hs
  -- The management transaction.
  case selectAsserted =>
    change execSelectAsserted s = _ at h
    unfold execSelectAsserted at h
    split at h
    · exact capacityOk_of_next h hs
    · split at h <;> exact capacityOk_of_next h hs
  case selectReleased =>
    exact capacityOk_of_ite h (State.capacityOk_of_empty rfl (Nat.zero_le _) (Nat.zero_le _)) (hs.of_eq (by simp))
  case responseSent =>
    change execResponseSent s = _ at h
    unfold execResponseSent at h
    split at h
    · exact capacityOk_of_next h (hs.completeTake.of_eq (by simp))
    all_goals exact capacityOk_of_next h hs
  -- The messages with no argument.
  case checkError | badCommand | getPath | getTiming | getEpoch | getLink | getStatus | setMask | clearCauses | clearRefusal |
      resetAll =>
    exact hs.of_settle h hs
  case resetDatapath => exact hs.of_settle h hs.resetDatapath
  case takeCompletion | takeEvent | getRefusal =>
    refine hs.of_settle h ?_
    split <;> exact hs
  case arm groupSet =>
    exact hs.of_settle h (List.foldlRecOn groupIds (State.armNamed groupSet) hs fun u hu g _ => hu.of_eq (by simp))
  -- The messages whose arguments are tested first.
  case getWindow | getGroup =>
    exact hs.of_settle h (hs.withArg _ _ fun _ => hs)
  case clearMissed | setHostInhibit =>
    exact hs.of_settle h (hs.withArg _ _ fun _ => hs.of_eq (by simp))
  case setWindow =>
    refine hs.of_settle h (hs.withArg _ _ fun _ => hs.withArg _ _ fun _ => ?_)
    split <;> exact hs.of_eq (by simp)
  case setWindowEnable =>
    exact hs.of_settle h (hs.withArg _ _ fun _ => hs.withArg _ _ fun _ => hs.of_eq (by simp))
  case enableGroup | disableGroup =>
    refine hs.of_settle h (hs.withArg _ _ fun _ => ?_)
    split <;> exact hs.of_eq (by simp)
  case resumeSkip =>
    refine hs.of_settle h (hs.withArg _ _ fun g => ?_)
    split
    · exact hs.resumeSkip g
    · exact hs
  case setPath =>
    refine hs.of_settle h (hs.withArg _ _ fun _ => ?_)
    split <;> exact hs
  case purgeCollecting =>
    refine hs.of_settle h (hs.withArg _ _ fun _ => ?_)
    split
    · exact hs.removeEntries _
    · exact hs
  case purgeAll =>
    refine hs.of_settle h (hs.withArg _ _ fun g => ?_)
    unfold State.purgeAll
    split
    · exact hs.purgeEntries g
    · exact hs
  case resumeRetry =>
    refine hs.of_settle h (hs.withArg _ _ fun _ => ?_)
    split
    · split <;> exact hs.of_eq (by simp)
    · exact hs
  case readEntry =>
    refine hs.of_settle h (hs.withArg _ _ fun _ => ?_)
    split
    · split <;> exact hs
    · exact hs
  case setGroup =>
    refine hs.of_settle h (hs.withArg _ _ fun g => hs.withArg _ _ fun c => ?_)
    split
    · exact hs
    · split
      · exact hs
      · next hq => exact hs.configureGroup g c (Nat.not_lt.1 hq)
  case setTiming =>
    exact hs.of_settle h (hs.withArg _ _ fun _ => hs.withArg _ _ fun _ => hs.withArg _ _ fun _ => hs.withArg _ _ fun _ =>
      hs.of_eq (by simp))
  case localFrameTrigger | localFrameEvent | localFrameSetup | localFrameStop | localFrameEpoch =>
    exact hs.of_settle h (hs.localFrame _ _ _)

/-- Settles O10: a step is a command, or a clock period that changes the management port or is a command. -/
theorem stepsKeepQueuesWithinPlaces : Obligations.StepsKeepQueuesWithinPlaces := by
  intro s t hs h
  unfold step at h
  split at h
  · unfold State.takeClock at h
    split at h
    · exact capacityOk_of_next h hs
    · next bit rest _ =>
      rcases State.clockPeriod_cases { s with clocks := rest } bit with ⟨-, hn⟩ | ⟨-, -, ⟨_, _, _, hn⟩ | ⟨i, hi⟩⟩
      · exact capacityOk_of_next (hn.symm.trans h) hs
      · exact capacityOk_of_next (hn.symm.trans h) hs
      · exact State.capacityOk.exec (s := { s with clocks := rest }) hs (hi.symm.trans h)
  · next rest _ => exact State.capacityOk.exec (s := { s with pending := rest }) hs h

end Sys2Proof.Machine
end

section
/-! PROOFS. A staged write that finds no space, the end of a hold, and the state after reset (R30, R31, R33). -/

namespace Sys2Proof.Machine

open Sys2Proof.Claims

/-! ### Staged writes without space -/

/-- With HOLD_LIMIT 0 a staged write without space is answered RETRY (R30). -/
theorem State.noSpace_retry (s : State) (w : StagedWrite) (h : s.queue.holdLimit = 0) : s.noSpace w = s.answer .retry := by
  rw [State.noSpace, if_pos h]

/-- With another HOLD_LIMIT it becomes the held write (R31). -/
theorem State.noSpace_hold (s : State) (w : StagedWrite) (h : s.queue.holdLimit ≠ 0) :
    s.noSpace w =
      { s with queue := { s.queue with held := some w, holdTimer := .running s.queue.holdLimit } }.raise .queueHold := by
  rw [State.noSpace, if_neg h]

/-- A staged write with a lane that can neither merge nor be appended finds no space (R26). -/
theorem exec_noSpace {s : State} {c : UCycle} {i : WindowId} (ha : canArrive s) (hl : ¬ noLane c) (hs : stagedThrough s c i)
    (hno : ∀ x ∈ s.queue.entries, ¬ mayMerge (written s c i) x) (hspace : ¬ space s (written s c i).group) :
    exec (cycle c) s = .next (s.beginCycle.noSpace (written s c i)) := by
  rw [exec_staged ha hl hs, s.beginCycle.stageWrite_noMerge _ hno, if_neg (show ¬ space s.beginCycle _ from hspace)]

/-- Settles O25: nothing but the answer is left of the cycle. -/
theorem writeWithoutSpaceIsRetried : Obligations.WriteWithoutSpaceIsRetried := by
  intro s c i ha hl hs hno hspace hlimit
  rw [exec_noSpace ha hl hs hno hspace, s.beginCycle.noSpace_retry _ hlimit, State.beginCycle_answer ha]

/-- Settles O26: the hold begins with the write of the decode, and no answer is driven. -/
theorem writeWithoutSpaceIsHeld : Obligations.WriteWithoutSpaceIsHeld := by
  intro s c i ha hl hs hno hspace hlimit
  rw [exec_noSpace ha hl hs hno hspace, s.beginCycle.noSpace_hold _ (Nat.one_le_iff_ne_zero.1 hlimit)]
  simp only [State.beginCycle, ha.2.2]
  rfl

/-- Settles O27: the hold is over, answered and raised. -/
theorem holdExpiryAnswersRetry : Obligations.HoldExpiryAnswersRetry := by
  intro s w hw hdue
  show Host.Outcome.next s.takeHoldExpiry = _
  simp only [State.takeHoldExpiry, hw, hdue, if_true]
  rfl

/-! ### The state after reset -/

/-- Each group's record after reset (R73). -/
theorem State.reset_group (g : GroupId) : State.reset.groups[g] = Group.reset := Vector.getElem_replicate g.isLt

/-- After reset no group has an entry. -/
theorem State.reset_batchCount (g : GroupId) : State.reset.batchCount g = 0 := rfl

/-- Settles O9: the queues and lists are empty, every group is DISABLED, and nothing is asked of the port. -/
theorem resetStateIsGood : Obligations.ResetStateIsGood := by
  have hlists : State.reset.listsOk := by
    refine ⟨List.nodup_nil, List.nodup_nil, fun g => ?_, fun g => ?_, fun g => ?_⟩ <;> rw [State.reset_group] <;> decide +revert
  have hbatches : State.reset.batchesOk := by
    refine ⟨hlists, fun g => ?_⟩
    rw [State.reset_group, State.reset_batchCount]
    decide
  have hcounts : State.reset.countsOk := by
    intro g hb
    rw [State.reset_group] at hb
    cases hb
  have harmed : State.reset.armedOk := by
    intro g ha
    rw [State.reset_group] at ha
    cases ha
  have hinhibit : State.reset.inhibitOk := ⟨fun hr => (nomatch hr), by decide, by decide, by decide⟩
  have hport : State.reset.portOk := ⟨rfl, rfl, by decide, fun _ ho => (nomatch ho), .inl rfl⟩
  exact ⟨State.capacityOk_of_empty rfl (Nat.zero_le _) (Nat.zero_le _), hbatches, hcounts, by decide, harmed, by decide, hinhibit,
    hport, by decide⟩

end Sys2Proof.Machine
end

section
/-! PROOFS. What an entry's part is, what a removal and the end of a batch make of the state, and the group's records in bytes, in the
words of the statements; and the commands of the groups and of the queue's entries (Chapters 2, 3 and 7). -/

namespace Sys2Proof.Machine

open Sys2Proof.Claims

/-! ### Parts and counts -/

/-- The model's test for an entry of a batch, in the statements' words. -/
theorem Entry.inBatch_eq (g : GroupId) (e : Entry) : e.inBatch g = decide (Claims.inBatch g e) := by
  rw [Bool.eq_iff_iff]
  simp [Entry.inBatch]

/-- The model's test for an entry of a collecting part, in the statements' words. -/
theorem Entry.inCollecting_eq (g : GroupId) (e : Entry) : e.inCollecting g = decide (collects g e) := by
  rw [Bool.eq_iff_iff]
  simp [Entry.inCollecting]

/-- A group's entry count (R49). -/
theorem State.entryCount_length (s : State) (g : GroupId) :
    s.entryCount g = (s.queue.entries.filter (fun e => e.group = g)).length := by
  rw [State.entryCount, List.countP_eq_length_filter]
  rfl

/-- A group's batch entries queued (R49). -/
theorem State.batchCount_length (s : State) (g : GroupId) :
    s.batchCount g = (s.queue.entries.filter (fun e => inBatch g e)).length := by
  simp only [State.batchCount, List.countP_eq_length_filter, funext (Entry.inBatch_eq g)]

/-- A group's collecting count (R49). -/
theorem State.collectingCount_length (s : State) (g : GroupId) :
    s.collectingCount g = (s.queue.entries.filter (fun e => collects g e)).length := by
  simp only [State.collectingCount, List.countP_eq_length_filter, funext (Entry.inCollecting_eq g)]

/-! ### The test for a held write and the end of a batch -/

/-- The queue's test for a held write, in the statements' words (R32). -/
theorem State.holdTest_eq (s : State) : s.holdTest = spaceTested s := by
  unfold spaceTested
  cases hw : s.queue.held with
  | none => exact s.holdTest_none hw
  | some w =>
    by_cases hs : space s w.group
    · rw [s.holdTest_space w hw ((s.spaceFor_iff _).2 hs)]
      simp only [if_pos hs]
      rfl
    · rw [s.holdTest_full w hw (Bool.eq_false_iff.2 (mt (s.spaceFor_iff _).1 hs))]
      simp only [if_neg hs]

/-- A posted completion record, in the statements' words (R153). -/
theorem State.postCompletion_eq (s : State) (c : Completion) : s.postCompletion c = { s with report := posted s.report c } := by
  unfold posted
  by_cases hroom : s.report.completions.length < 32
  · rw [s.postCompletion_room c hroom, if_pos hroom]
    rfl
  · rw [s.postCompletion_full c (Nat.not_lt.1 hroom), if_neg hroom]
    rfl

/-- The end of a batch, in the statements' words (R62, R89). -/
theorem State.endBatch_eq (s : State) (g : GroupId) (outcome : BatchOutcome) : s.endBatch g outcome = batchEnd s g outcome := by
  have hentries : (fun e => !Entry.inBatch g e) = fun e => Decidable.decide ¬ inBatch g e := by
    funext e
    rw [Entry.inBatch_eq, decide_not]
  have hothers : (fun h : GroupId => h != g) = fun h => Decidable.decide (h ≠ g) := by
    funext h
    rw [decide_not]
    rfl
  rw [State.endBatch, State.holdTest_eq, State.postCompletion_eq, batchEnd, ← hentries, ← hothers]
  rfl

/-! ### Reads of a group and of an entry

A value's code is its place in the list of the values (R176). -/

theorem triggerSourceCode_eq (t : TriggerSource) : t.code = code [.channels, .event] t := by cases t <;> rfl

theorem modeCode_eq (m : Mode) : m.code = code [.once, .repeating] m := by cases m <;> rfl

theorem faultPolicyCode_eq (p : FaultPolicy) : p.code = code [.skip, .halt] p := by cases p <;> rfl

theorem groupStateCode_eq (t : GroupState) : t.code = code groupStates t := by cases t <;> rfl

theorem outcomeCode_eq (o : BatchOutcome) : o.code = code outcomes o := by cases o <;> rfl

theorem missedReasonCode_eq (m : MissedReason) : m.code = code [.busy, .notArmed] m := by cases m <;> rfl

theorem cycleClassCode_eq (c : CycleClass) : cycleClassCode c = code [.normal, .privileged] c := by cases c <;> rfl

theorem entryPartCode_eq (p : EntryPart) : p.code = code [.collecting, .batch] p := by cases p <;> rfl

/-- A lane set in one byte. -/
theorem laneMask_eq (l : LaneSet) : laneMask l = bits [l.l0, l.l1, l.l2, l.l3] := by
  obtain ⟨l0, l1, l2, l3⟩ := l
  revert l0 l1 l2 l3
  decide

/-- The remaining time of a timer. -/
theorem Timer.remaining_eq (t : Timer) : t.remaining = Claims.remaining t := by cases t <;> rfl

/-- A batch origin in 11 bytes (R178). -/
theorem Trigger.bytes_eq (t : Trigger) : t.bytes = originBytes t := by
  rw [Trigger.bytes, originBytes, originCode_eq, Stamp.bytes_eq]
  cases t.kind <;> rfl

/-- The configuration fields after a byte (R178). -/
theorem GroupConfig.cons_bytes_eq (b : Byte) (c : GroupConfig) :
    b :: c.bytes =
      [b] ++ [code [.channels, .event] c.triggerSource, c.channelSet, c.matchCode, c.matchMask, num c.profileSet.toNat,
          yesNo c.armRequired] ++ big 3 c.delay ++ [code [.once, .repeating] c.mode] ++ big 2 c.repeatCount ++
        big 3 c.interval ++ big 2 c.quota ++ [code [.skip, .halt] c.faultPolicy] := by
  have hprofiles : c.profileSet.setWidth 8 = num c.profileSet.toNat := BitVec.eq_of_toNat_eq (by simp [num])
  rw [GroupConfig.bytes, hprofiles, triggerSourceCode_eq, modeCode_eq, faultPolicyCode_eq, bytesOf_eq, bytesOf_eq, bytesOf_eq,
    bytesOf_eq]
  rfl

/-- A group record with its derived counts (R72, R178). -/
theorem State.groupBytes_eq (s : State) (g : GroupId) : s.groupBytes g = groupRecordBytes s g := by
  have horigin : Trigger.bytes = originBytes := funext Trigger.bytes_eq
  have hstamp : Stamp.bytes = stampBytes := funext Stamp.bytes_eq
  have hword : split4 = fun a : Addr => big 4 a.toNat := funext split4_eq
  have hnumber : bytesOf = big := funext fun k => funext (bytesOf_eq k)
  unfold State.groupBytes groupRecordBytes
  dsimp only
  rw [GroupConfig.cons_bytes_eq, presence_eq, hnumber, hword, horigin, hstamp, optBytes_eq, optBytes_eq, optBytes_eq, optBytes_eq,
    optBytes_eq, optByte_eq, optByte_eq, Timer.remaining_eq, groupStateCode_eq, State.entryCount_length, State.batchCount_length,
    State.collectingCount_length, funext missedReasonCode_eq, funext outcomeCode_eq]
  rfl

/-- An entry in 16 bytes (R46, R178). -/
theorem Entry.toBytes_eq (e : Entry) : e.toBytes = entryBytes e := by
  simp only [Entry.toBytes, entryBytes, split4_eq, split2_eq, laneMask_eq, cycleClassCode_eq, entryPartCode_eq]
  rfl

/-- READ_ENTRY with an index in range finds the group's entry at it, or none (R46). -/
theorem readEntry_answers {s : State} (hc : inCommand s) (g : GroupId) (index : BitVec 16) (hi : index.toNat ≤ 511) :
    (∀ e, (s.entriesOf g)[index.toNat]? = some e → answers s (.readEntry (num g.val) index) s .done e.toBytes) ∧
      ((s.entriesOf g)[index.toNat]? = none → answers s (.readEntry (num g.val) index) s .empty []) := by
  refine ⟨fun e he => ?_, fun he => ?_⟩ <;> refine answers_of_settle hc rfl ?_ <;>
    simp only [groupArg_num, State.withArg_some, if_pos hi, he] <;> rfl

/-- Settles O50: each read answers its layout, and its action leaves the state. -/
theorem groupAndEntryReadsReturnTheRecord : Obligations.GroupAndEntryReadsReturnTheRecord := by
  intro s hc
  refine ⟨fun g => ?_, fun n hn => ?_, fun g index e hi he => ?_, fun g index hi hpast => ?_, fun n index hbad => ?_⟩
  · rw [← s.groupBytes_eq g]
    exact answers_of_settle hc rfl (by rw [groupArg_num]; rfl)
  · exact answers_of_settle hc rfl (State.withArg_bad (.inl (groupArg_bad hn)))
  · rw [← e.toBytes_eq]
    exact (readEntry_answers hc g index hi).1 e he
  · exact (readEntry_answers hc g index hi).2 (List.getElem?_eq_none hpast)
  · refine answers_of_settle hc rfl ?_
    rcases hbad with hn | hi
    · exact State.withArg_bad (.inl (groupArg_bad hn))
    · exact State.withArg_bad (.inr fun g => by rw [if_neg (Nat.not_le.2 hi)]; rfl)

/-! ### SET_GROUP

Each value's code is read back as the value, and a byte past the codes as none (R176). -/

theorem triggerSourceArg_code (t : TriggerSource) : triggerSourceArg (code [.channels, .event] t) = some t := by cases t <;> rfl

theorem modeArg_code (m : Mode) : modeArg (code [.once, .repeating] m) = some m := by cases m <;> rfl

theorem faultPolicyArg_code (p : FaultPolicy) : faultPolicyArg (code [.skip, .halt] p) = some p := by cases p <;> rfl

theorem profileSetArg_num (p : BitVec 4) : profileSetArg (num p.toNat) = some p := by
  have hp : p.toNat < 16 := p.isLt
  have hn : (num p.toNat).toNat = p.toNat := num_toNat (by omega)
  have hback : (num p.toNat).setWidth 4 = p :=
    BitVec.eq_of_toNat_eq (by rw [BitVec.toNat_setWidth, hn, Nat.mod_eq_of_lt p.isLt])
  rw [profileSetArg, hn, if_pos hp, hback]

section
variable {b : Byte}

theorem triggerSourceArg_bad (h : 1 < b.toNat) : triggerSourceArg b = none := by
  unfold triggerSourceArg; split <;> simp_all

theorem modeArg_bad (h : 1 < b.toNat) : modeArg b = none := by
  unfold modeArg; split <;> simp_all

theorem faultPolicyArg_bad (h : 1 < b.toNat) : faultPolicyArg b = none := by
  unfold faultPolicyArg; split <;> simp_all

theorem profileSetArg_bad (h : 15 < b.toNat) : profileSetArg b = none := by
  rw [profileSetArg, if_neg (by omega)]

end

/-- The arguments that carry a configuration in range give that configuration (R67, step 1). -/
theorem configOfArgs_argsOf (c : GroupConfig) (h : configGood c) : configOfArgs (argsOf c) = some c := by
  obtain ⟨hdelay, hrepeat, hinterval, hintervalTop, hquota, hquotaTop⟩ := h
  have hd : (BitVec.ofNat 24 c.delay).toNat = c.delay := Nat.mod_eq_of_lt (by omega)
  have hr : (BitVec.ofNat 16 c.repeatCount).toNat = c.repeatCount := Nat.mod_eq_of_lt (by omega)
  have hi : (BitVec.ofNat 24 c.interval).toNat = c.interval := Nat.mod_eq_of_lt (by omega)
  have hq : (BitVec.ofNat 16 c.quota).toNat = c.quota := Nat.mod_eq_of_lt (by omega)
  simp only [configOfArgs, argsOf, triggerSourceArg_code, profileSetArg_num, yesNoArg_yesNo, modeArg_code, faultPolicyArg_code,
    hd, hr, hi, hq, hinterval, hquota, hquotaTop, and_self, if_true]
  rfl

/-- Arguments of SET_GROUP with one out of range give no configuration (R67, step 1). -/
theorem configOfArgs_bad {a : GroupArgs}
    (h : 1 < a.triggerSource.toNat ∨ 15 < a.profileSet.toNat ∨ 1 < a.armRequired.toNat ∨ 1 < a.mode.toNat ∨
      1 < a.faultPolicy.toNat ∨ a.interval.toNat = 0 ∨ a.quota.toNat = 0 ∨ 512 < a.quota.toNat) : configOfArgs a = none := by
  unfold configOfArgs
  by_cases hrange : 1 ≤ a.interval.toNat ∧ 1 ≤ a.quota.toNat ∧ a.quota.toNat ≤ 512
  · rcases h with h | h | h | h | h | h
    · simp [triggerSourceArg_bad h]
    · simp [profileSetArg_bad h]
    · simp [yesNoArg_bad h]
    · simp [modeArg_bad h]
    · simp [faultPolicyArg_bad h]
    · omega
  · simp [if_neg hrange]

/-- The states in which a group may be configured (R67, step 2). -/
theorem GroupState.configurable_iff (t : GroupState) : t.configurable = true ↔ t = .disabled ∨ t = .collecting := by
  cases t <;> simp [GroupState.configurable]

/-- The held write is one of the group, in the statements' words. -/
theorem State.holdsWriteOf_iff (s : State) (g : GroupId) : s.holdsWriteOf g = true ↔ s.queue.held.map (·.group) = some g := by
  unfold State.holdsWriteOf
  cases s.queue.held <;> simp

/-- An accepted SET_GROUP, in the statements' words (R32, R68). -/
theorem State.configureGroup_eq (s : State) (g : GroupId) (c : GroupConfig) :
    s.configureGroup g c =
      if c.quota ≠ s.groups[g].config.quota ∧ s.queue.held.map (·.group) = some g then
        spaceTested (withGroup s g { s.groups[g] with config := c, armed := false })
      else withGroup s g { s.groups[g] with config := c, armed := false } := by
  have htest : (s.groups[g].config.quota != c.quota && s.holdsWriteOf g) = true ↔
      c.quota ≠ s.groups[g].config.quota ∧ s.queue.held.map (·.group) = some g := by
    rw [Bool.and_eq_true, bne_iff_ne, ne_comm, s.holdsWriteOf_iff]
  simp only [State.configureGroup, htest, State.holdTest_eq]
  rfl

/-- What SET_GROUP does with a group and a configuration in range (R67, steps 2 and 3; R68). -/
theorem setGroup_answers {s u : State} {status : Status} (hc : inCommand s) (g : GroupId) (c : GroupConfig) (hgood : configGood c)
    (h : (if !s.groups[g].state.configurable then (s, Reply.bare .wrongState)
      else if c.quota < s.entryCount g then (s, .bare .badArgument)
      else (s.configureGroup g c, .ok)) = (u, ⟨status, []⟩)) :
    answers s (.setGroup (num g.val) (argsOf c)) u status [] :=
  answers_of_settle hc rfl (by rw [groupArg_num, State.withArg_some, configOfArgs_argsOf c hgood]; exact h)

/-- Settles O51: the arguments are read as the values they code, and the three tests are the model's own. -/
theorem setGroupWritesTheConfiguration : Obligations.SetGroupWritesTheConfiguration := by
  intro s hc
  refine ⟨fun g c hgood => ⟨fun hbusy => ?_, fun hidle hlow => ?_, fun hidle hquota => ?_⟩, fun n a hbad => ?_⟩
  · have hconf := Bool.eq_false_iff.2 (mt (GroupState.configurable_iff _).1 hbusy)
    exact setGroup_answers hc g c hgood (by rw [hconf]; rfl)
  · have hconf := (GroupState.configurable_iff _).2 hidle
    rw [← State.entryCount_length] at hlow
    exact setGroup_answers hc g c hgood (by rw [hconf, if_pos hlow]; rfl)
  · have hconf := (GroupState.configurable_iff _).2 hidle
    rw [← State.entryCount_length, ← Nat.not_lt] at hquota
    rw [← State.configureGroup_eq]
    exact setGroup_answers hc g c hgood (by rw [hconf, if_neg hquota]; rfl)
  · refine answers_of_settle hc rfl ?_
    rcases hbad with hn | hbad
    · exact State.withArg_bad (.inl (groupArg_bad hn))
    · exact State.withArg_bad (.inr fun g => State.withArg_bad (.inl (configOfArgs_bad hbad)))

/-! ### ENABLE_GROUP, DISABLE_GROUP and ARM -/

/-- A held write of another group, or none, stays when a group is disabled. -/
theorem State.refuseHeld_other (s : State) (g : GroupId) (h : s.queue.held.map (·.group) ≠ some g) : s.refuseHeld g = s := by
  unfold State.refuseHeld
  cases hw : s.queue.held with
  | none => rfl
  | some w => exact if_neg fun hg => h (by rw [hw, ← hg]; rfl)

/-- A held write of the disabled group is refused (R34). -/
theorem State.refuseHeld_own (s : State) (g : GroupId) (w : StagedWrite) (hw : s.queue.held = some w) (hg : w.group = g) :
    s.refuseHeld g = s.endHold.refuse w.refused .groupDisabled (some w.window) := by
  simp only [State.refuseHeld, hw, hg, if_true]

/-- An arming, in the statements' words (R143, R144). -/
theorem Group.arm_eq (r : Group) : r.arm = armedNow r := by
  simp only [Group.arm, armedNow, Bool.and_eq_true, bne_iff_ne]

/-- A second arming changes nothing. -/
theorem armedNow_armedNow (r : Group) : armedNow (armedNow r) = armedNow r := by
  by_cases h : r.config.armRequired = true ∧ r.state ≠ .disabled
  · simp [armedNow, h]
  · simp [armedNow, h]

/-- An ARM arms the named groups and touches no other (R144). -/
theorem State.armNamed_foldl (set : Byte) (l : List GroupId) (s : State) :
    l.foldl (State.armNamed set) s =
      { s with groups := Vector.ofFn fun g =>
          if g ∈ l ∧ set.getLsbD g.val = true then armedNow s.groups[g] else s.groups[g] } := by
  induction l generalizing s with
  | nil => simp
  | cons a l ih =>
    rw [List.foldl_cons, ih]
    have hrest : State.armNamed set s a = { s with groups := (State.armNamed set s a).groups } := by
      unfold State.armNamed
      split <;> rfl
    have hone : ∀ g : GroupId, (State.armNamed set s a).groups[g.val] =
        if g = a ∧ set.getLsbD g.val = true then armedNow s.groups[g.val] else s.groups[g.val] := by
      intro g
      unfold State.armNamed
      split
      · next ha =>
        rw [State.updGroup_get, Group.arm_eq]
        by_cases hg : g = a
        · subst hg; simp [ha]
        · simp [hg]
      · next ha =>
        exact (if_neg fun ⟨hg, hbit⟩ => ha (hg ▸ hbit)).symm
    rw [hrest]
    show State.mk .. = State.mk ..
    congr 1
    ext i hi : 1
    simp only [Vector.getElem_ofFn, Fin.getElem_fin, hone ⟨i, hi⟩, List.mem_cons]
    by_cases hbit : set.getLsbD i = true
    case neg => simp [hbit]
    by_cases ha : (⟨i, hi⟩ : GroupId) = a
    · simp [hbit, ha, armedNow_armedNow]
    · simp [hbit, ha]

/-- The bits that ARM answers: the groups named and armed (R144). -/
theorem State.armedBit_eq (s : State) (set : Byte) : s.armedBit set = fun g => set.getLsbD g.val && s.groups[g].armed := rfl

/-- Settles O52: each command is one update of the named groups, with a held write of a disabled group refused. -/
theorem enableDisableAndArm : Obligations.EnableDisableAndArm := by
  intro s hc
  refine ⟨fun g => ⟨fun hst => ?_, fun hst => ?_, fun hst hother => ?_, fun w hst hw hg => ?_, fun hst => ?_⟩,
    fun n hn => ⟨?_, ?_⟩, fun set => ?_⟩
  · exact answers_of_settle hc rfl (by rw [groupArg_num, State.withArg_some, if_pos hst]; rfl)
  · exact answers_of_settle hc rfl (by rw [groupArg_num, State.withArg_some, if_neg hst]; rfl)
  · refine answers_of_settle hc rfl ?_
    rw [groupArg_num, State.withArg_some, if_pos hst, (s.updGroup g Group.disable).refuseHeld_other g hother]
    rfl
  · refine answers_of_settle hc rfl ?_
    rw [groupArg_num, State.withArg_some, if_pos hst, (s.updGroup g Group.disable).refuseHeld_own g w hw hg]
    rfl
  · exact answers_of_settle hc rfl (by rw [groupArg_num, State.withArg_some, if_neg hst]; rfl)
  · exact answers_of_settle hc rfl (State.withArg_bad (.inl (groupArg_bad hn)))
  · exact answers_of_settle hc rfl (State.withArg_bad (.inl (groupArg_bad hn)))
  · have hall : ∀ g : GroupId, g ∈ groupIds := by decide
    refine answers_of_settle hc rfl ?_
    simp only [State.armNamed_foldl, hall, true_and, State.armedSet, presence_eq, State.armedBit_eq, Fin.getElem_fin,
      Vector.getElem_ofFn]
    rfl

/-! ### PURGE -/

/-- A removal with its test for a held write, in the statements' words (R41). -/
theorem State.removeEntries_eq (s : State) (p : Entry → Bool) :
    s.removeEntries p =
      spaceTested { s with queue := { s.queue with entries := s.queue.entries.filter (fun e => !p e) } } := by
  rw [State.removeEntries, State.holdTest_eq]
  rfl

/-- The states in which PURGE with scope ALL is accepted (R45). -/
theorem GroupState.purgeable_iff (t : GroupState) : t.purgeable = true ↔ t ∈ [.disabled, .collecting, .faulted] := by
  cases t <;> decide

/-- Settles O54: what a scope names is removed, and in FAULTED the batch ends on what is left. -/
theorem purgesRemoveAndCount : Obligations.PurgesRemoveAndCount := by
  intro s hc
  refine ⟨fun g => ?_, fun n scope _ hbad => ?_, fun g => ⟨fun hst => ?_, fun hst => ?_, fun hst => ?_⟩, fun n hn => ?_⟩
  · refine answers_of_settle hc rfl ?_
    rw [groupArg_num, State.withArg_some, if_pos (show (0 : Byte) = 0#8 from rfl), State.purgeCollecting, State.removeEntries_eq,
      bytesOf_eq, State.collectingCount_length]
    simp only [Entry.inCollecting_eq, decide_not]
    rfl
  · refine answers_of_settle hc rfl ?_
    rcases hbad with hn | hscope
    · exact State.withArg_bad (.inl (groupArg_bad hn))
    · exact State.withArg_bad (.inr fun g => if_neg hscope)
  · refine answers_of_settle hc rfl ?_
    have hpurgeable := (GroupState.purgeable_iff s.groups[g].state).2 (by rcases hst with h | h <;> rw [h] <;> decide)
    have hnotFaulted : s.groups[g].state ≠ .faulted := by rcases hst with h | h <;> rw [h] <;> decide
    rw [groupArg_num, State.withArg_some, State.purgeAll, if_pos hpurgeable, State.purgeEntries, if_neg hnotFaulted,
      State.removeEntries_eq, bytesOf_eq, State.entryCount_length]
    simp only [decide_not]
    rfl
  · refine answers_of_settle hc rfl ?_
    have hpurgeable := (GroupState.purgeable_iff s.groups[g].state).2 (by rw [hst]; decide)
    rw [groupArg_num, State.withArg_some, State.purgeAll, if_pos hpurgeable, State.purgeEntries, if_pos hst, State.work_eq,
      State.endBatch_eq, bytesOf_eq, State.entryCount_length]
    simp only [decide_not]
    rfl
  · refine answers_of_settle hc rfl ?_
    rw [groupArg_num, State.withArg_some, State.purgeAll, if_neg (mt (GroupState.purgeable_iff _).1 hst)]
    rfl
  · exact answers_of_settle hc rfl (State.withArg_bad (.inl (groupArg_bad hn)))

end Sys2Proof.Machine
end

section
/-! PROOFS. A trigger offered to the groups: what one group makes of it, what the groups of a list make of it one after another, and the
edge at TRIG (R51 to R58, R117). -/

namespace Sys2Proof.Machine

open Sys2Proof.Claims

/-! ### What some groups make of a trigger -/

/-- The group's record once it has settled the trigger (R52 to R56, R58). -/
def settledRecord (s : State) (t : Trigger) (g : GroupId) : Group :=
  let old := s.groups[g]
  let cut := cutRecord old t (cutSize s g)
  if takes s t g then
    if cutSize s g = 0 then { cut with origin := none, lastOutcome := some .empty }
    else if old.config.delay ≠ 0 then { cut with state := .pending, timer := .running old.config.delay }
    else if s.inhibited = true then { cut with state := .held }
    else { cut with state := .ready }
  else if misses s t g then
    { old with
      missed := min (old.missed + 1) 255
      lastMissed := some (if old.state = .collecting then .notArmed else .busy) }
  else old

/-- The groups of a list have settled the trigger, and nothing else has changed: the statements' offered is this for all eight. -/
def offeredTo (s : State) (t : Trigger) (l : List GroupId) : State :=
  { s with
    groups := Vector.ofFn fun g => if g ∈ l then settledRecord s t g else s.groups[g]
    queue := { s.queue with
      entries := s.queue.entries.map (fun e =>
        if e.group ∈ l ∧ takes s t e.group ∧ e.part = .collecting then { e with part := .batch } else e) }
    ready := s.ready ++ l.filter (fun g => takesAtOnce s t g ∧ s.inhibited = false)
    heldList := s.heldList ++ l.filter (fun g => takesAtOnce s t g ∧ s.inhibited = true)
    report :=
      let r := ((l.filter (fun g => takes s t g ∧ cutSize s g = 0)).map (emptyRecord s t)).foldl posted s.report
      if ∃ g ∈ l, misses s t g then r.with .triggerMissed else r }

/-- The record that settles a trigger is the one the rules name. -/
theorem afterTrigger_settledRecord (s : State) (t : Trigger) (g : GroupId) : afterTrigger s t g (settledRecord s t g) := by
  have hdisjoint : misses s t g → ¬ takes s t g := fun h => h.2.2
  refine ⟨fun ht hm => ?_, fun hm hst => ?_, fun hm hst => ?_, fun ht hz => ?_, fun ht hz hd => ?_, fun ht hi => ?_,
    fun ht hi => ?_⟩
  · simp only [settledRecord, if_neg ht, if_neg hm]
  · simp only [settledRecord, if_neg (hdisjoint hm), if_pos hm, if_pos hst]
  · simp only [settledRecord, if_neg (hdisjoint hm), if_pos hm, if_neg hst]
  · simp only [settledRecord, if_pos ht, if_pos hz]
  · simp only [settledRecord, if_pos ht, if_neg hz, if_pos hd]
  · obtain ⟨ht, hz, hd⟩ := ht
    simp only [settledRecord, if_pos ht, if_neg hz, if_neg (not_not.2 hd), hi, Bool.false_eq_true, if_false]
  · obtain ⟨ht, hz, hd⟩ := ht
    simp only [settledRecord, if_pos ht, if_neg hz, if_neg (not_not.2 hd), if_pos hi]

/-- The eight groups have settled the trigger, in the statements' words (R51). -/
theorem offered_offeredTo (s : State) (t : Trigger) : offered s t (offeredTo s t groupIds) := by
  have hall : ∀ g : GroupId, g ∈ groupIds := by decide
  refine ⟨fun g => ?_, ?_⟩
  · have hg : (offeredTo s t groupIds).groups[g] = settledRecord s t g := by simp [offeredTo, hall]
    rw [hg]
    exact afterTrigger_settledRecord s t g
  · simp only [offeredTo, hall, true_and]

/-! ### One group -/

/-- The model's test of a trigger, in the statements' words (R52). -/
theorem GroupConfig.matchesTrigger_eq (c : GroupConfig) (t : Trigger) : c.matchesTrigger t = concerns t c := by
  obtain ⟨source, kind, profile, stamp⟩ := t
  unfold GroupConfig.matchesTrigger concerns
  cases kind <;> cases c.triggerSource <;> simp [GroupConfig.matchesEvent, Bool.beq_eq_decide_eq]

/-- What one group makes of a trigger, block by block. -/
theorem offeredTo_single (s : State) (t : Trigger) (g : GroupId) :
    offeredTo s t [g] =
      { withGroup s g (settledRecord s t g) with
        queue := { s.queue with
          entries := s.queue.entries.map (fun e =>
            if takes s t g ∧ collects g e then { e with part := .batch } else e) }
        ready := s.ready ++ if takesAtOnce s t g ∧ s.inhibited = false then [g] else []
        heldList := s.heldList ++ if takesAtOnce s t g ∧ s.inhibited = true then [g] else []
        report :=
          let r := if takes s t g ∧ cutSize s g = 0 then posted s.report (emptyRecord s t g) else s.report
          if misses s t g then r.with .triggerMissed else r } := by
  have hentry : ∀ e : Entry, (e.group ∈ [g] ∧ takes s t e.group ∧ e.part = .collecting) ↔ (takes s t g ∧ collects g e) := by
    intro e
    rw [List.mem_singleton]
    constructor
    · rintro ⟨rfl, ht, hp⟩
      exact ⟨ht, rfl, hp⟩
    · rintro ⟨ht, rfl, hp⟩
      exact ⟨rfl, ht, hp⟩
  show State.mk .. = State.mk ..
  congr 1
  · simp only [hentry]
  · ext i hi : 1
    simp only [withGroup, Vector.getElem_ofFn, Vector.getElem_set, List.mem_singleton, Fin.ext_iff, eq_comm (a := g.val)]
    split
    · next h => subst h; rfl
    · rfl
  · simp only [List.filter_cons, List.filter_nil, decide_eq_true_eq]
  · simp only [List.filter_cons, List.filter_nil, decide_eq_true_eq]
  · simp only [List.filter_cons, List.filter_nil, decide_eq_true_eq, List.mem_singleton, exists_eq_left]
    by_cases hz : takes s t g ∧ cutSize s g = 0
    · simp only [if_pos hz, List.map_cons, List.map_nil, List.foldl_cons, List.foldl_nil]
    · simp only [if_neg hz, List.map_nil, List.foldl_nil]

/-- A group that neither takes nor misses the trigger leaves the state. -/
theorem offeredTo_ignored (s : State) (t : Trigger) (g : GroupId) (ht : ¬ takes s t g) (hm : ¬ misses s t g) :
    offeredTo s t [g] = s := by
  have hrecord : settledRecord s t g = s.groups[g] := (afterTrigger_settledRecord s t g).1 ht hm
  have hnow : ∀ p : Prop, ¬ (takesAtOnce s t g ∧ p) := fun p h => ht h.1.1
  rw [offeredTo_single, hrecord]
  simp only [ht, false_and, if_false, List.map_id', if_neg (hnow _), List.append_nil, if_neg hm]
  simp [withGroup]

/-- A group that misses the trigger counts it (R58). -/
theorem offeredTo_missed (s : State) (t : Trigger) (g : GroupId) (hm : misses s t g) :
    offeredTo s t [g] = s.missTrigger g (if s.groups[g].state = .collecting then .notArmed else .busy) := by
  have ht : ¬ takes s t g := hm.2.2
  have hrecord : settledRecord s t g =
      s.groups[g].miss (if s.groups[g].state = .collecting then .notArmed else .busy) := by
    simp only [settledRecord, if_neg ht, if_pos hm]
    rfl
  have hnow : ∀ p : Prop, ¬ (takesAtOnce s t g ∧ p) := fun p h => ht h.1.1
  rw [offeredTo_single, hrecord]
  simp only [ht, false_and, if_false, List.map_id', if_neg (hnow _), List.append_nil, if_pos hm]
  rfl

/-- The entries of a group after its cut, in the statements' words (R29). -/
theorem Entry.cut_eq (g : GroupId) (e : Entry) : e.cut g = if collects g e then { e with part := .batch } else e := by
  simp only [Entry.cut, Entry.inCollecting_eq, decide_eq_true_eq]

/-- Two updates of one group are one. -/
theorem State.updGroup_updGroup (s : State) (g : GroupId) (f k : Group → Group) :
    (s.updGroup g f).updGroup g k = s.updGroup g (fun r => k (f r)) := by
  simp [State.updGroup]

/-- The group's record and the entries as the cut leaves them, before what the group goes on to (R29, R54). -/
def cutState (s : State) (t : Trigger) (g : GroupId) : State :=
  { s with queue := { s.queue with entries := s.queue.entries.map (Entry.cut g) } }.updGroup g (Group.cut t (cutSize s g))

/-- A cut ends an empty batch, and with entries leaves COLLECTING (R55, R56). -/
theorem State.cutGroup_eq (s : State) (g : GroupId) (t : Trigger) :
    s.cutGroup g t = if cutSize s g = 0 then (cutState s t g).endEmpty g t else (cutState s t g).leaveCollecting g := by
  have hsize : s.collectingCount g = cutSize s g := s.collectingCount_length g
  simp only [State.cutGroup, hsize]
  rfl

/-- The cut group's record. -/
theorem cutState_group (s : State) (t : Trigger) (g : GroupId) :
    (cutState s t g).groups[g.val] = cutRecord s.groups[g] t (cutSize s g) :=
  State.updGroup_get_self _ g _

/-- An update of the cut group is one update of the group. -/
theorem cutState_updGroup (s : State) (t : Trigger) (g : GroupId) (k : Group → Group) :
    (cutState s t g).updGroup g k =
      { withGroup s g (k (cutRecord s.groups[g] t (cutSize s g))) with
        queue := { s.queue with entries := s.queue.entries.map (Entry.cut g) } } := by
  rw [cutState, State.updGroup_updGroup]
  rfl

/-- The record of an empty batch is the one the rules name (R55). -/
theorem cutState_emptyCompletion (s : State) (t : Trigger) (g : GroupId) :
    (cutState s t g).emptyCompletion g t = emptyRecord s t g := by
  simp only [State.emptyCompletion, Fin.getElem_fin, cutState_group]
  rfl

/-- An empty cut ends its batch at once (R55). -/
theorem State.cutGroup_empty (s : State) (g : GroupId) (t : Trigger) (hz : cutSize s g = 0) :
    s.cutGroup g t =
      { withGroup s g { cutRecord s.groups[g] t (cutSize s g) with origin := none, lastOutcome := some .empty } with
        queue := { s.queue with entries := s.queue.entries.map (Entry.cut g) }
        report := posted s.report (emptyRecord s t g) } := by
  have hend : (cutState s t g).endEmpty g t =
      { (cutState s t g).updGroup g (fun r => { r with lastOutcome := some .empty, origin := none }) with
        report := posted s.report (emptyRecord s t g) } := by
    rw [State.endEmpty, State.postCompletion_eq, cutState_emptyCompletion]
    rfl
  rw [State.cutGroup_eq, if_pos hz, hend, cutState_updGroup]

/-- A cut with entries and a delay leaves the group PENDING (R56). -/
theorem State.cutGroup_delayed (s : State) (g : GroupId) (t : Trigger) (hz : cutSize s g ≠ 0)
    (hd : s.groups[g].config.delay ≠ 0) :
    s.cutGroup g t =
      { withGroup s g { cutRecord s.groups[g] t (cutSize s g) with
          state := .pending, timer := .running s.groups[g].config.delay } with
        queue := { s.queue with entries := s.queue.entries.map (Entry.cut g) } } := by
  have hdelay : (cutState s t g).groups[g].config.delay ≠ 0 := by rwa [Fin.getElem_fin, cutState_group]
  rw [State.cutGroup_eq, if_neg hz, State.leaveCollecting, if_neg hdelay, cutState_updGroup]
  rfl

/-- A cut with entries and no delay goes on to READY, or with effective inhibit set to HELD (R56, R140). -/
theorem State.cutGroup_atOnce (s : State) (g : GroupId) (t : Trigger) (hz : cutSize s g ≠ 0)
    (hd : s.groups[g].config.delay = 0) :
    s.cutGroup g t =
      if s.inhibited = true then
        { withGroup s g { cutRecord s.groups[g] t (cutSize s g) with state := .held } with
          queue := { s.queue with entries := s.queue.entries.map (Entry.cut g) }
          heldList := s.heldList ++ [g] }
      else
        { withGroup s g { cutRecord s.groups[g] t (cutSize s g) with state := .ready } with
          queue := { s.queue with entries := s.queue.entries.map (Entry.cut g) }
          ready := s.ready ++ [g] } := by
  have hdelay : (cutState s t g).groups[g].config.delay = 0 := by rwa [Fin.getElem_fin, cutState_group]
  rw [State.cutGroup_eq, if_neg hz, State.leaveCollecting, if_pos hdelay, State.toReady, cutState_updGroup, cutState_updGroup]
  rfl

/-- A group that takes the trigger is cut (R54 to R56). -/
theorem offeredTo_taken (s : State) (t : Trigger) (g : GroupId) (ht : takes s t g) : offeredTo s t [g] = s.cutGroup g t := by
  have hm : ¬ misses s t g := fun h => h.2.2 ht
  have hcut : (fun e => if takes s t g ∧ collects g e then { e with part := .batch } else e) = Entry.cut g :=
    funext fun e => (if_congr (and_iff_right ht) rfl rfl).trans (Entry.cut_eq g e).symm
  rw [offeredTo_single, hcut]
  simp only [if_neg hm, settledRecord, if_pos ht]
  by_cases hz : cutSize s g = 0
  · have hnow : ∀ p : Prop, ¬ (takesAtOnce s t g ∧ p) := fun p h => h.1.2.1 hz
    rw [s.cutGroup_empty g t hz]
    simp only [if_neg (hnow _), if_pos hz, if_pos (And.intro ht hz), List.append_nil]
    rfl
  · have hrecord : ¬ (takes s t g ∧ cutSize s g = 0) := fun h => hz h.2
    by_cases hd : s.groups[g].config.delay = 0
    · have hnow : takesAtOnce s t g := ⟨ht, hz, hd⟩
      have hdelay : ¬ s.groups[g].config.delay ≠ 0 := not_not.2 hd
      rw [s.cutGroup_atOnce g t hz hd]
      by_cases hi : s.inhibited = true
      · have hready : ¬ (takesAtOnce s t g ∧ s.inhibited = false) := fun h => absurd (hi.symm.trans h.2) (by decide)
        simp only [if_neg hz, if_neg hdelay, if_pos hi, if_neg hrecord, if_neg hready, if_pos (And.intro hnow hi),
          List.append_nil]
        rfl
      · have hheld : ¬ (takesAtOnce s t g ∧ s.inhibited = true) := fun h => hi h.2
        have hclear : s.inhibited = false := Bool.eq_false_iff.2 hi
        simp only [if_neg hz, if_neg hdelay, if_neg hi, if_neg hrecord, if_neg hheld, if_pos (And.intro hnow hclear),
          List.append_nil]
        rfl
    · have hnow : ∀ p : Prop, ¬ (takesAtOnce s t g ∧ p) := fun p h => hd h.1.2.2
      rw [s.cutGroup_delayed g t hz hd]
      simp only [if_neg (hnow _), if_neg hz, if_pos (show s.groups[g].config.delay ≠ 0 from hd), if_neg hrecord, List.append_nil]
      rfl

/-- A group settles a trigger as the statements say of a list of it alone (R52, R53). -/
theorem settleTrigger_eq (s : State) (t : Trigger) (g : GroupId) : State.settleTrigger t s g = offeredTo s t [g] := by
  have hconcerns : s.groups[g.val].config.matchesTrigger t = concerns t s.groups[g].config := GroupConfig.matchesTrigger_eq _ t
  by_cases hc : concerns t s.groups[g].config = true
  case neg =>
    rw [s.settleTrigger_other t g (hconcerns.trans (Bool.eq_false_iff.2 hc)),
      offeredTo_ignored s t g (fun h => hc h.1) (fun h => hc h.1)]
  rw [s.settleTrigger_match t g (hconcerns.trans hc)]
  by_cases ht : takes s t g
  · obtain ⟨-, hst, harmed⟩ := id ht
    rw [offeredTo_taken s t g ht, s.settleMatch_takes t g hst harmed]
  by_cases hd : s.groups[g].state = .disabled
  · rw [s.settleMatch_disabled t g hd, offeredTo_ignored s t g ht fun h => h.2.1 hd]
  rw [offeredTo_missed s t g ⟨hc, hd, ht⟩]
  by_cases hst : s.groups[g].state = .collecting
  · have hunarmed : ¬ (s.groups[g].config.armRequired = true → s.groups[g].armed = true) := fun h => ht ⟨hc, hst, h⟩
    obtain ⟨hreq, harm⟩ := Classical.not_imp.1 hunarmed
    rw [if_pos hst, s.settleMatch_notArmed t g hst hreq (Bool.eq_false_iff.2 harm)]
  · rw [if_neg hst, s.settleMatch_busy t g hd hst]

/-! ### One group after others -/

/-- Two causes join the set in either order. -/
theorem Report.with_comm (r : Report) (c d : Cause) : (r.with c).with d = (r.with d).with c := by
  simp only [Report.with, BitVec.or_assoc, BitVec.or_comm c.set]

/-- A cause joins the set once. -/
theorem Report.with_self (r : Report) (c : Cause) : (r.with c).with c = r.with c := by
  simp only [Report.with, BitVec.or_assoc, BitVec.or_self]

/-- A completion record is posted alike whatever cause was raised before it. -/
theorem posted_with (r : Report) (c : Cause) (x : Completion) : posted (r.with c) x = (posted r x).with c := by
  have hlength : (r.with c).completions.length = r.completions.length := rfl
  unfold posted
  rw [hlength]
  split
  · rw [Report.with_comm]
    rfl
  · rw [Report.with_comm r c, Report.with_comm _ c]

/-- So are any number of them. -/
theorem foldl_posted_with (r : Report) (c : Cause) (l : List Completion) :
    l.foldl posted (r.with c) = (l.foldl posted r).with c := by
  induction l generalizing r with
  | nil => rfl
  | cons x l ih => rw [List.foldl_cons, posted_with, ih, List.foldl_cons]

section
variable {s : State} {t : Trigger} {l : List GroupId} {g : GroupId}

/-- A group that is not of the list is as it was. -/
theorem offeredTo_group_other (hg : g ∉ l) : (offeredTo s t l).groups[g] = s.groups[g] := by
  simp [offeredTo, hg]

/-- An entry after the groups of the list have settled the trigger (R29). -/
def entryAfter (s : State) (t : Trigger) (l : List GroupId) (e : Entry) : Entry :=
  if e.group ∈ l ∧ takes s t e.group ∧ e.part = .collecting then { e with part := .batch } else e

theorem offeredTo_entries : (offeredTo s t l).queue.entries = s.queue.entries.map (entryAfter s t l) := rfl

/-- An entry keeps its group. -/
theorem entryAfter_group (e : Entry) : (entryAfter s t l e).group = e.group := by
  unfold entryAfter
  split <;> rfl

/-- An entry of a group that is not of the list is as it was. -/
theorem entryAfter_other {e : Entry} (he : e.group ∉ l) : entryAfter s t l e = e :=
  if_neg fun h => he h.1

/-- What a group that is not of the list collects is what it collected. -/
theorem offeredTo_cutSize (hg : g ∉ l) : cutSize (offeredTo s t l) g = cutSize s g := by
  have hcollects : ∀ e, collects g (entryAfter s t l e) ↔ collects g e := by
    intro e
    by_cases he : e.group = g
    · rw [entryAfter_other (he ▸ hg)]
    · simp [collects, entryAfter_group, he]
  simp only [cutSize, offeredTo_entries, ← List.countP_eq_length_filter, List.countP_map]
  exact List.countP_congr fun e _ => by simpa using hcollects e

/-- It takes or misses the trigger as it would have. -/
theorem offeredTo_takes (hg : g ∉ l) : takes (offeredTo s t l) t g ↔ takes s t g := by
  rw [takes, takes, offeredTo_group_other hg]

theorem offeredTo_misses (hg : g ∉ l) : misses (offeredTo s t l) t g ↔ misses s t g := by
  rw [misses, misses, offeredTo_takes hg, offeredTo_group_other hg]

theorem offeredTo_takesAtOnce (hg : g ∉ l) : takesAtOnce (offeredTo s t l) t g ↔ takesAtOnce s t g := by
  rw [takesAtOnce, takesAtOnce, offeredTo_takes hg, offeredTo_cutSize hg, offeredTo_group_other hg]

/-- Its record settles the trigger as it would have. -/
theorem offeredTo_settledRecord (hg : g ∉ l) : settledRecord (offeredTo s t l) t g = settledRecord s t g := by
  have hinhibited : (offeredTo s t l).inhibited = s.inhibited := rfl
  simp only [settledRecord, offeredTo_takes hg, offeredTo_misses hg, offeredTo_cutSize hg, offeredTo_group_other hg, hinhibited]

/-- The record of its empty batch is as it would have been. -/
theorem offeredTo_emptyRecord (hg : g ∉ l) : emptyRecord (offeredTo s t l) t g = emptyRecord s t g := by
  rw [emptyRecord, offeredTo_group_other hg]
  rfl

/-- An entry after one group more. -/
theorem entryAfter_append (hg : g ∉ l) (e : Entry) :
    (if takes s t g ∧ collects g (entryAfter s t l e) then { entryAfter s t l e with part := .batch } else entryAfter s t l e) =
      entryAfter s t (l ++ [g]) e := by
  by_cases he : e.group = g
  · subst he
    rw [entryAfter_other hg]
    simp [entryAfter, collects]
  · have hmem : e.group ∈ l ++ [g] ↔ e.group ∈ l := by simp [he]
    rw [if_neg fun h => he ((entryAfter_group e).symm.trans h.2.1)]
    simp only [entryAfter, hmem]

/-- The records after one group more. -/
theorem offeredTo_groups_append :
    (withGroup (offeredTo s t l) g (settledRecord s t g)).groups = (offeredTo s t (l ++ [g])).groups := by
  ext i hi : 1
  by_cases hig : i = g.val
  · subst hig
    simp [withGroup, offeredTo]
  · simp [withGroup, offeredTo, Ne.symm hig, Fin.ext_iff, hig]

/-- A record posted and a trigger missed, before or after other misses were raised. -/
theorem posted_missed (r : Report) (x : Completion) (earlier missed empty : Prop) [Decidable earlier] [Decidable missed]
    [Decidable empty] :
    (let u := if earlier then r.with .triggerMissed else r
      let v := if empty then posted u x else u
      if missed then v.with .triggerMissed else v) =
      let v := (if empty then [x] else []).foldl posted r
      if earlier ∨ missed then v.with .triggerMissed else v := by
  have hfold : (if empty then [x] else []).foldl posted r = if empty then posted r x else r := by split <;> rfl
  rw [hfold]
  by_cases he : earlier
  · by_cases hz : empty <;> simp [he, hz, posted_with, Report.with_self]
  · simp [he]

/-- The report after one group more. -/
theorem offeredTo_report_append :
    (let u := (offeredTo s t l).report
      let r := if takes s t g ∧ cutSize s g = 0 then posted u (emptyRecord s t g) else u
      if misses s t g then r.with .triggerMissed else r) = (offeredTo s t (l ++ [g])).report := by
  have hmissed : (∃ k ∈ l ++ [g], misses s t k) ↔ (∃ k ∈ l, misses s t k) ∨ misses s t g := by
    simp only [List.mem_append, List.mem_singleton, or_and_right, exists_or, exists_eq_left]
  have hempty : ((l ++ [g]).filter (fun g => takes s t g ∧ cutSize s g = 0)).map (emptyRecord s t) =
      (l.filter (fun g => takes s t g ∧ cutSize s g = 0)).map (emptyRecord s t) ++
        if takes s t g ∧ cutSize s g = 0 then [emptyRecord s t g] else [] := by
    simp only [List.filter_append, List.map_append, List.filter_cons, List.filter_nil, decide_eq_true_eq]
    split <;> rfl
  simp only [offeredTo, hmissed, hempty, List.foldl_append]
  exact posted_missed _ _ _ _ _

/-- The groups of a list and then one more settle the trigger as the longer list does. -/
theorem offeredTo_append (hg : g ∉ l) : offeredTo (offeredTo s t l) t [g] = offeredTo s t (l ++ [g]) := by
  rw [offeredTo_single, offeredTo_settledRecord hg, offeredTo_emptyRecord hg]
  simp only [offeredTo_takes hg, offeredTo_takesAtOnce hg, offeredTo_cutSize hg, offeredTo_misses hg]
  show State.mk .. = State.mk ..
  congr 1
  · refine congrArg (fun entries => { s.queue with entries := entries }) ?_
    rw [offeredTo_entries, List.map_map]
    exact List.map_congr_left fun e _ => entryAfter_append hg e
  · exact offeredTo_groups_append
  · show (s.ready ++ l.filter _) ++ _ = s.ready ++ (l ++ [g]).filter _
    simp only [List.filter_append, List.filter_cons, List.filter_nil, decide_eq_true_eq, List.append_assoc]
    rfl
  · show (s.heldList ++ l.filter _) ++ _ = s.heldList ++ (l ++ [g]).filter _
    simp only [List.filter_append, List.filter_cons, List.filter_nil, decide_eq_true_eq, List.append_assoc]
    rfl
  · exact offeredTo_report_append

end

/-! ### All eight groups -/

/-- The groups of a list settle the trigger one after another (R51). -/
theorem foldl_settleTrigger (s : State) (t : Trigger) (l : List GroupId) (hl : l.Nodup) :
    l.foldl (State.settleTrigger t) s = offeredTo s t l := by
  induction l using List.reverseRecOn with
  | nil => simp [offeredTo]
  | append_singleton l g ih =>
    obtain ⟨hg, hnodup⟩ := (List.nodup_concat l g).1 (List.concat_eq_append ▸ hl)
    rw [List.foldl_append, ih hnodup, List.foldl_cons, List.foldl_nil, settleTrigger_eq, offeredTo_append hg]

/-- A trigger offered is settled by the eight groups, and what follows at the same event has happened (R51, R76). -/
theorem triggered_offerTrigger (s : State) (t : Trigger) : triggered s t (s.offerTrigger t) :=
  ⟨offeredTo s t groupIds, offered_offeredTo s t, by
    rw [State.offerTrigger, foldl_settleTrigger s t groupIds (by decide), State.work_eq]⟩

/-- Settles O41: out of reset the edge offers the PIN trigger. -/
theorem trigEdgesTriggerTheGroups : Obligations.TrigEdgesTriggerTheGroups := by
  intro s hr
  refine ⟨_, ?_, triggered_offerTrigger s _⟩
  show execTrigEdge s = _
  rw [execTrigEdge, hr]
  rfl

end Sys2Proof.Machine
end

section
/-! PROOFS. How a command can change the record of a group: its configuration stays, and armed stays right (R68, R69, R144). A lemma
State.op_follows says it of the operation op. -/

namespace Sys2Proof.Machine

open Sys2Proof.Claims

/-! ### Records -/

/-- Armed is yes only where the group requires arming and is not DISABLED (R69, R144): armedOk, for one record. -/
def Group.ArmedRight (r : Group) : Prop := r.armed = true → r.config.armRequired = true ∧ r.state ≠ .disabled

/-- The second record can come of the first: the configuration is the same, and armed is right where it was. -/
structure Group.Follows (r r' : Group) : Prop where
  config : r'.config = r.config
  armed : r.ArmedRight → r'.ArmedRight

theorem Group.Follows.refl (r : Group) : r.Follows r := ⟨rfl, id⟩

theorem Group.Follows.trans {r r' r'' : Group} (h : r.Follows r') (h' : r'.Follows r'') : r.Follows r'' :=
  ⟨h'.config.trans h.config, h'.armed ∘ h.armed⟩

/-- A record with the same configuration that is armed, and is DISABLED, only where the first is. -/
theorem Group.Follows.of_kept {r r' : Group} (hc : r'.config = r.config) (ha : r'.armed = true → r.armed = true)
    (hs : r'.state = .disabled → r.state = .disabled) : r.Follows r' :=
  ⟨hc, fun h h' => by
    obtain ⟨hreq, hst⟩ := h (ha h')
    exact ⟨hc ▸ hreq, mt hs hst⟩⟩

/-- A record that enters a state other than DISABLED. -/
theorem Group.enter_follows (r : Group) {st : GroupState} (h : st ≠ .disabled) : r.Follows (r.enter st) :=
  .of_kept rfl id fun hs => absurd hs h

theorem Group.take_follows (now : Stamp) (r : Group) : r.Follows (r.take now) :=
  .of_kept (by simp) (by simp) (by unfold Group.take; split <;> simp)

theorem Group.endBatch_follows (outcome : BatchOutcome) (r : Group) : r.Follows (r.endBatch outcome) :=
  .of_kept rfl id (by simp [Group.endBatch])

theorem Group.cut_follows (t : Trigger) (size : Nat) (r : Group) : r.Follows (r.cut t size) :=
  .of_kept rfl (by simp [Group.cut]) id

theorem Group.disable_follows (r : Group) : r.Follows r.disable := ⟨rfl, fun _ => nofun⟩

theorem Group.disarmBy_follows (choice : ChannelChoice) (p : Profile) (r : Group) : r.Follows (r.disarmBy choice p) :=
  .of_kept (by simp) (by unfold Group.disarmBy; split <;> simp) (by simp)

theorem Group.resetDatapath_follows (r : Group) : r.Follows r.resetDatapath := ⟨rfl, fun _ => nofun⟩

/-- An arming sets armed where that is right (R144). -/
theorem Group.arm_follows (r : Group) : r.Follows r.arm := by
  refine ⟨by simp, fun h => ?_⟩
  unfold Group.arm
  split
  · next hc =>
    simp only [Bool.and_eq_true, bne_iff_ne] at hc
    exact fun _ => hc
  · exact h

/-! ### States -/

/-- The record of every group can come of the one before. -/
def State.Follows (s t : State) : Prop := ∀ g : GroupId, s.groups[g].Follows t.groups[g]

theorem State.Follows.refl (s : State) : s.Follows s := fun _ => .refl _

theorem State.Follows.trans {s t u : State} (h : s.Follows t) (h' : t.Follows u) : s.Follows u := fun g => (h g).trans (h' g)

/-- The groups are those before. -/
theorem State.Follows.of_groups {s t : State} (h : t.groups = s.groups) : s.Follows t := fun _ => h ▸ .refl _

/-- Every record is changed alike. -/
theorem State.Follows.of_map {s t : State} {f : Group → Group} (h : t.groups = s.groups.map f) (hf : ∀ r : Group, r.Follows (f r)) :
    s.Follows t := by
  intro g
  simp only [h, Fin.getElem_fin, Vector.getElem_map]
  exact hf _

/-- One record is changed. -/
theorem State.updGroup_follows (s : State) (g : GroupId) {f : Group → Group} (hf : ∀ r : Group, r.Follows (f r)) :
    s.Follows (s.updGroup g f) := by
  intro h
  simp only [Fin.getElem_fin, State.updGroup_get]
  split
  · next hg => subst hg; exact hf _
  · exact .refl _

/-- Group after group, every record can come of the one before. -/
theorem State.foldl_follows {f : State → GroupId → State} (hf : ∀ (u : State) (g : GroupId), u.Follows (f u g)) (l : List GroupId)
    (s : State) : s.Follows (l.foldl f s) :=
  List.foldlRecOn l f (State.Follows.refl s) fun _ hu g _ => hu.trans (hf _ g)

theorem State.enter_follows (s : State) (g : GroupId) {st : GroupState} (h : st ≠ .disabled) :
    s.Follows (s.updGroup g (Group.enter st)) :=
  s.updGroup_follows g fun r => r.enter_follows h

theorem State.toReady_follows (s : State) (g : GroupId) : s.Follows (s.toReady g) := by
  unfold State.toReady
  split
  · exact s.enter_follows g (by decide)
  · exact s.enter_follows g (by decide)

theorem State.holdTest_follows (s : State) : s.Follows s.holdTest := .of_groups (by simp)

theorem State.work_follows (s : State) : s.Follows s.work := by
  have htake : s.Follows s.takeHead := by
    unfold State.takeHead
    split
    · next g _ _ _ => exact s.updGroup_follows g (Group.take_follows _)
    · exact .refl s
  have hgrant : s.takeHead.Follows s.work := .of_groups (by simp [State.work])
  exact htake.trans hgrant

theorem State.endBatch_follows (s : State) (g : GroupId) (outcome : BatchOutcome) : s.Follows (s.endBatch g outcome) := by
  have hposted : s.Follows (((s.postCompletion (s.completionOf g outcome)).withoutEntries (Entry.inBatch g)).leaveLists g) :=
    .of_groups (by simp)
  have htallied := hposted.trans (.of_groups (State.setTally_groups _ g 0))
  exact (htallied.trans (State.updGroup_follows _ g (Group.endBatch_follows outcome))).trans (State.holdTest_follows _)

theorem State.continueBatch_follows (s : State) (g : GroupId) : s.Follows (s.continueBatch g) := by
  unfold State.continueBatch
  split
  · have hreset : s.Follows (s.updGroup g fun r => { r with position := 0, late := false }) :=
      s.updGroup_follows g fun _ => .of_kept rfl id id
    exact .trans (by exact hreset) (State.toReady_follows _ g)
  · exact s.updGroup_follows g fun _ => .of_kept rfl id nofun

theorem State.endRepetition_follows (s : State) (g : GroupId) : s.Follows (s.endRepetition g) := by
  have hcounted : s.Follows (s.updGroup g Group.countRepetition) := s.updGroup_follows g fun _ => .of_kept rfl id id
  unfold State.endRepetition
  dsimp only
  split
  · exact hcounted.trans (State.endBatch_follows _ g _)
  · exact hcounted.trans (State.continueBatch_follows _ g)

theorem State.passEntry_follows (s : State) (g : GroupId) : s.Follows (s.passEntry g) := by
  have hmoved : ∀ u : State, u.Follows (u.updGroup g fun r => { r with position := r.position + 1 }) :=
    fun u => u.updGroup_follows g fun _ => .of_kept rfl id id
  unfold State.passEntry
  split
  · exact State.Follows.trans (.of_groups (by simp)) (hmoved _)
  · exact hmoved s

theorem State.betweenEntries_follows (s : State) (g : GroupId) (stopping : Bool) : s.Follows (s.betweenEntries g stopping) := by
  have hidle : s.Follows (s.setPhase .idle) := .of_groups rfl
  unfold State.betweenEntries
  split
  · have hended := hidle.trans (State.endRepetition_follows _ g)
    unfold State.stopAfterRepetition
    split
    · exact hended.trans (State.endBatch_follows _ g _)
    · exact hended
  · split
    · exact hidle.trans (State.endBatch_follows _ g _)
    · split
      · exact hidle.trans (State.enter_follows _ g (by decide))
      · exact .of_groups rfl

theorem State.engineEnd_follows (s : State) (o : Outstanding) (e : WriteEnd) : s.Follows (s.engineEnd o e) := by
  unfold State.engineEnd
  split
  · next g stopping _ =>
    cases e with
    | ok =>
      have hpassed : s.Follows ((s.countOk g).passEntry g) := State.passEntry_follows (s.countOk g) g
      exact hpassed.trans (State.betweenEntries_follows _ g stopping)
    | fault =>
      have hcounted : s.Follows ((s.raise .releaseFault).updGroup g (Group.countFault o.cycle.addr)) :=
        State.updGroup_follows (s.raise .releaseFault) g fun _ => .of_kept rfl id id
      show s.Follows (s.writeFault g stopping o.cycle.addr)
      unfold State.writeFault
      dsimp only
      split
      · exact (hcounted.trans (State.passEntry_follows _ g)).trans (State.betweenEntries_follows _ g stopping)
      · split
        · exact .trans (by exact hcounted) (State.endBatch_follows _ g _)
        · exact .trans (by exact hcounted) (State.enter_follows _ g (by decide))
  · exact .refl s

theorem State.cutGroup_follows (s : State) (g : GroupId) (t : Trigger) : s.Follows (s.cutGroup g t) := by
  have hcut : s.Follows (cutState s t g) := State.updGroup_follows
    { s with queue := { s.queue with entries := s.queue.entries.map (Entry.cut g) } } g (Group.cut_follows t _)
  rw [State.cutGroup_eq]
  split
  · have hposted : (cutState s t g).Follows ((cutState s t g).postCompletion ((cutState s t g).emptyCompletion g t)) :=
      .of_groups (by simp)
    exact (hcut.trans hposted).trans (State.updGroup_follows _ g fun _ => .of_kept rfl id id)
  · unfold State.leaveCollecting
    split
    · exact hcut.trans (State.toReady_follows _ g)
    · exact hcut.trans (State.updGroup_follows _ g fun _ => .of_kept rfl id nofun)

theorem State.missTrigger_follows (s : State) (g : GroupId) (reason : MissedReason) : s.Follows (s.missTrigger g reason) :=
  s.updGroup_follows g fun _ => .of_kept rfl id id

theorem State.offerTrigger_follows (s : State) (t : Trigger) : s.Follows (s.offerTrigger t) := by
  have hone : ∀ (u : State) (g : GroupId), u.Follows (State.settleTrigger t u g) := by
    intro u g
    unfold State.settleTrigger
    split
    · unfold State.settleMatch
      split
      · exact .refl u
      · split
        · exact u.missTrigger_follows g _
        · exact u.cutGroup_follows g t
      all_goals exact u.missTrigger_follows g _
    · exact .refl u
  exact (State.foldl_follows hone groupIds s).trans (State.work_follows _)

theorem State.stopGroup_follows (s : State) (g : GroupId) : s.Follows (s.stopGroup g) := by
  unfold State.stopGroup
  split
  case h_1 | h_2 => exact .refl s
  case h_3 | h_4 | h_6 | h_7 | h_8 => exact s.endBatch_follows g _
  case h_5 =>
    unfold State.stopAtEngine
    split
    · split
      · split
        · exact State.endBatch_follows (s.setPhase .idle) g _
        · exact .of_groups rfl
      · exact .refl s
    · exact .refl s

theorem State.stop_follows (s : State) (choice : ChannelChoice) (p : Profile) : s.Follows (s.stop choice p) := by
  have hone : ∀ (u : State) (g : GroupId), u.Follows (State.stopReached choice p u g) := by
    intro u g
    unfold State.stopReached
    split
    · exact u.stopGroup_follows g
    · exact .refl u
  have hstart : s.Follows { s.raise .stopReceived with groups := s.groups.map (Group.disarmBy choice p) } :=
    .of_map rfl (Group.disarmBy_follows choice p)
  exact (hstart.trans (State.foldl_follows hone groupIds _)).trans (State.work_follows _)

theorem State.enterAll_follows (s : State) (l : List GroupId) {st : GroupState} (h : st ≠ .disabled) : s.Follows (s.enterAll l st) :=
  State.foldl_follows (fun (u : State) g => u.enter_follows g h) l s

theorem State.changeSources_follows (s : State) (i : InhibitSet) : s.Follows (s.changeSources i) := by
  unfold State.changeSources
  dsimp only
  split
  · exact .of_groups rfl
  · split
    · have hengine : s.Follows ((s.setSources i).raise .inhibitChange).inhibitEngine := by
        unfold State.inhibitEngine
        split
        · next g _ _ => exact State.enter_follows (State.setPhase _ .idle) g (by decide)
        · exact .of_groups rfl
      exact hengine.trans (State.enterAll_follows _ _ (by decide))
    · have hready : s.Follows (((s.setSources i).raise .inhibitChange).enterAll s.heldList .ready) :=
        State.enterAll_follows ((s.setSources i).raise .inhibitChange) _ (by decide)
      exact .trans (by exact hready) (State.work_follows _)

theorem State.takeResponse_follows (s : State) (r : MemResponse) : s.Follows (s.takeResponse r) := by
  unfold State.takeResponse
  split
  · exact .refl s
  · exact .refl s
  · exact State.Follows.trans (.of_groups (by simp)) (State.work_follows _)
  · next source o _ =>
    refine State.Follows.trans ?_ (State.work_follows _)
    cases source <;> cases r
    · exact State.engineEnd_follows (s.setPort .free) o .ok
    · exact State.engineEnd_follows (s.setPort .free) o .fault
    · exact .of_groups (by simp [State.handResponse])
    · exact .of_groups (by simp [State.handResponse])

theorem State.takeTimeout_follows (s : State) : s.Follows s.takeTimeout := by
  unfold State.takeTimeout
  split
  · next source o _ =>
    split
    · refine State.Follows.trans ?_ (State.work_follows _)
      cases source
      · exact State.engineEnd_follows (s.setPort (.recovering o.recover)) o .fault
      · exact .of_groups (by simp [State.handTimeout])
    · exact .refl s
  · split <;> exact .of_groups rfl
  · exact .refl s
  · exact .refl s

theorem State.takeRecovery_follows (s : State) : s.Follows s.takeRecovery := by
  unfold State.takeRecovery
  split
  · split
    · exact State.Follows.trans (.of_groups (by simp)) (State.work_follows _)
    · exact .refl s
  all_goals exact .refl s

/-- The expiry of a delay or an interval that sends the group on. -/
theorem State.sentOn_follows (s : State) (g : GroupId) : s.Follows ((s.updGroup g Group.stopTimer).toReady g).work :=
  have hstopped : s.Follows (s.updGroup g Group.stopTimer) := s.updGroup_follows g fun _ => .of_kept rfl id id
  (hstopped.trans (State.toReady_follows _ g)).trans (State.work_follows _)

theorem State.purgeEntries_follows (s : State) (g : GroupId) : s.Follows (s.purgeEntries g) := by
  unfold State.purgeEntries
  split
  · exact (State.endBatch_follows (s.withoutEntries fun e => e.group == g) g _).trans (State.work_follows _)
  · exact .of_groups (by simp)

theorem State.resumeSkip_follows (s : State) (g : GroupId) : s.Follows (s.resumeSkip g) := by
  unfold State.resumeSkip
  refine State.Follows.trans (s.passEntry_follows g) (State.Follows.trans ?_ (State.work_follows _))
  split
  · exact State.endRepetition_follows _ g
  · exact State.toReady_follows _ g

end Sys2Proof.Machine
end

section
/-! PROOFS. What the lists, the engine and the queue say of a group, the changes that leave all of it, and what every command but the
writers of a configuration is made of (R22, R50, R59, R75). -/

namespace Sys2Proof.Machine

open Sys2Proof.Claims

/-! ### Batch entries -/

/-- An entry that stands in a batch is not of a collecting part. -/
theorem Entry.inCollecting_of_inBatch {g h : GroupId} {e : Entry} (he : e.inBatch h = true) : e.inCollecting g = false := by
  simp_all [Entry.inBatch, Entry.inCollecting]

/-- An appended write joins no batch (R23). -/
theorem State.batchCount_append (s : State) (w : StagedWrite) (g : GroupId) : (s.append w).batchCount g = s.batchCount g := by
  simp [State.batchCount, StagedWrite.entry, Entry.inBatch]

theorem State.batchCount_holdTest (s : State) (g : GroupId) : s.holdTest.batchCount g = s.batchCount g := by
  unfold State.holdTest
  split
  · split
    · exact State.batchCount_append s.endHold _ g
    · rfl
  · rfl

/-- A removal that names no entry of the group's batch leaves its count. -/
theorem State.batchCount_withoutEntries (s : State) (p : Entry → Bool) (g : GroupId) (hp : ∀ e, e.inBatch g = true → p e = false) :
    (s.withoutEntries p).batchCount g = s.batchCount g := by
  simp only [State.batchCount, State.withoutEntries, List.countP_filter]
  refine List.countP_congr fun e _ => ?_
  simp only [Bool.and_eq_true, Bool.not_eq_true', and_iff_left_iff_imp]
  exact hp e

/-- A removal that names every entry of the group's batch leaves none. -/
theorem State.batchCount_withoutEntries_all (s : State) (p : Entry → Bool) (g : GroupId)
    (hp : ∀ e, e.inBatch g = true → p e = true) : (s.withoutEntries p).batchCount g = 0 := by
  simp only [State.batchCount, State.withoutEntries, List.countP_eq_zero, List.mem_filter, Bool.not_eq_true']
  intro e ⟨_, he⟩ hg
  rw [hp e hg] at he
  cases he

/-- A removal of collecting entries leaves every batch. -/
theorem State.batchCount_removeCollecting (s : State) (g h : GroupId) :
    (s.removeEntries (Entry.inCollecting g)).batchCount h = s.batchCount h :=
  (State.batchCount_holdTest _ h).trans (s.batchCount_withoutEntries _ h fun _ he => Entry.inCollecting_of_inBatch he)

/-- A removal of a group's entries leaves the other batches. -/
theorem State.batchCount_withoutGroup (s : State) {g h : GroupId} (hh : h ≠ g) :
    (s.withoutEntries fun e => e.group == g).batchCount h = s.batchCount h :=
  s.batchCount_withoutEntries _ h fun e he => by simp_all [Entry.inBatch]

/-- The removal of a group's oldest batch entry leaves the other batches. -/
theorem State.batchCount_removeOldest_other (s : State) {g h : GroupId} (hh : h ≠ g) :
    (s.removeOldest g).batchCount h = s.batchCount h := by
  refine (State.batchCount_holdTest _ h).trans ?_
  obtain hnone | ⟨e, l, r, -, he, heq, herase⟩ := List.exists_or_eq_self_of_eraseP (Entry.inBatch g) s.queue.entries
  · simp only [State.batchCount, hnone]
  · have hgroup : e.group = g := by simp_all [Entry.inBatch]
    have hother : e.inBatch h = false := by simp [Entry.inBatch, hgroup, hh.symm]
    simp only [State.batchCount, herase]
    rw [heq]
    simp [hother]

/-- The removal of a group's oldest batch entry takes one from its batch. -/
theorem State.batchCount_removeOldest (s : State) (g : GroupId) (hb : s.batchCount g ≠ 0) :
    (s.removeOldest g).batchCount g + 1 = s.batchCount g := by
  rw [show (s.removeOldest g).batchCount g = _ from State.batchCount_holdTest _ g]
  obtain ⟨e, hmem, he⟩ := List.countP_pos_iff.1 (Nat.pos_of_ne_zero hb)
  obtain ⟨a, l, r, -, ha, heq, herase⟩ := List.exists_of_eraseP hmem he
  simp only [State.batchCount, herase]
  rw [heq]
  simp [ha, Nat.add_assoc]

/-- Where a replaced first element keeps what is counted, the count is kept. -/
theorem updateFirst_countP {α : Type} {p q : α → Bool} {f : α → α} (hq : ∀ a, p a = true → q (f a) = q a) {l m : List α}
    (h : updateFirst p f l = some m) : m.countP q = l.countP q := by
  induction l generalizing m with
  | nil => cases h
  | cons a l ih =>
    unfold updateFirst at h
    split at h
    · next ha =>
      cases h
      simp [List.countP_cons, hq a ha]
    · obtain ⟨n, hn, rfl⟩ := Option.map_eq_some_iff.1 h
      simp [List.countP_cons, ih hn]

/-- A staged write joins no batch, whether it merges, is appended or waits (R26). -/
theorem State.batchCount_stageWrite (s : State) (w : StagedWrite) (g : GroupId) : (s.stageWrite w).batchCount g = s.batchCount g := by
  unfold State.stageWrite
  split
  · next entries hm =>
    exact updateFirst_countP (q := Entry.inBatch g) (f := fun e => { e with bytes := overlay w.bytes e.bytes }) (m := entries)
      (fun _ _ => rfl) hm
  · split
    · exact s.batchCount_append w g
    · simp [State.batchCount]

/-- The records say nothing of the entries. -/
@[simp] theorem State.batchCount_updGroup (s : State) (g k : GroupId) (f : Group → Group) :
    (s.updGroup g f).batchCount k = s.batchCount k := rfl

/-! ### The standing of a group -/

/-- What the record of a group, the queue, the lists and the engine say of its batch. -/
structure Standing where
  state : GroupState
  mode : Mode
  position : Nat
  batchSize : Nat
  queued : Nat
  ready : Prop
  held : Prop
  running : Prop

/-- The standing of a group. -/
def State.standing (s : State) (g : GroupId) : Standing where
  state := s.groups[g].state
  mode := s.groups[g].config.mode
  position := s.groups[g].position
  batchSize := s.groups[g].batchSize
  queued := s.batchCount g
  ready := g ∈ s.ready
  held := g ∈ s.heldList
  running := s.engine.phase.current = some g

/-! ### Changes that concern no batch -/

/-- Nothing has changed that a group's standing or what waits at the engine and the port is made of, and no record but as one follows
from another. -/
structure State.Quiet (s t : State) : Prop where
  follows : s.Follows t
  record : ∀ g : GroupId, t.groups[g].state = s.groups[g].state ∧ t.groups[g].position = s.groups[g].position ∧
    t.groups[g].batchSize = s.groups[g].batchSize
  batch : ∀ g, t.batchCount g = s.batchCount g
  ready : t.ready = s.ready
  heldList : t.heldList = s.heldList
  phase : t.engine.phase = s.engine.phase
  port : t.arbiter.port = .free ↔ s.arbiter.port = .free
  host : t.hostWaiting = s.hostWaiting

/-- The records, the lists, the engine, the port, the host path's cycle and the batch entries are those before. -/
theorem State.Quiet.of_batches {s t : State} (hb : ∀ g, t.batchCount g = s.batchCount g)
    (h : t.groups = s.groups ∧ t.ready = s.ready ∧ t.heldList = s.heldList ∧ t.engine.phase = s.engine.phase ∧
      t.arbiter.port = s.arbiter.port ∧ t.upstream.host = s.upstream.host) : s.Quiet t := by
  obtain ⟨hgroups, hready, hheld, hphase, hport, hhost⟩ := h
  exact ⟨.of_groups hgroups, fun g => by simp [hgroups], hb, hready, hheld, hphase, by rw [hport], by
    rw [State.hostWaiting, hhost]; rfl⟩

/-- So are the entries altogether. -/
theorem State.Quiet.of_eq {s t : State} (h : t.queue.entries = s.queue.entries ∧ t.groups = s.groups ∧ t.ready = s.ready ∧
    t.heldList = s.heldList ∧ t.engine.phase = s.engine.phase ∧ t.arbiter.port = s.arbiter.port ∧
      t.upstream.host = s.upstream.host) : s.Quiet t :=
  .of_batches (fun g => by rw [State.batchCount, h.1]; rfl) h.2

/-- The records have changed in what concerns no batch, and nothing else has. -/
theorem State.Quiet.of_records {s t : State} (hf : s.Follows t)
    (hr : ∀ g : GroupId, t.groups[g].state = s.groups[g].state ∧ t.groups[g].position = s.groups[g].position ∧
      t.groups[g].batchSize = s.groups[g].batchSize)
    (h : t.queue.entries = s.queue.entries ∧ t.ready = s.ready ∧ t.heldList = s.heldList ∧ t.engine.phase = s.engine.phase ∧
      (t.arbiter.port = .free ↔ s.arbiter.port = .free) ∧ t.upstream.host = s.upstream.host) : s.Quiet t := by
  obtain ⟨hentries, hready, hheld, hphase, hport, hhost⟩ := h
  exact ⟨hf, hr, fun g => by rw [State.batchCount, hentries]; rfl, hready, hheld, hphase, hport, by
    rw [State.hostWaiting, hhost]; rfl⟩

/-- One record is changed in what concerns no batch. -/
theorem State.updGroup_quiet (s : State) (g : GroupId) {f : Group → Group} (hf : ∀ r : Group, r.Follows (f r))
    (hr : ∀ r, (f r).state = r.state ∧ (f r).position = r.position ∧ (f r).batchSize = r.batchSize) : s.Quiet (s.updGroup g f) := by
  refine .of_records (s.updGroup_follows g hf) (fun h => ?_) ⟨rfl, rfl, rfl, rfl, Iff.rfl, rfl⟩
  simp only [Fin.getElem_fin, State.updGroup_get]
  split
  · next hg => subst hg; exact hr _
  · exact ⟨rfl, rfl, rfl⟩

/-- Every record is changed alike in what concerns no batch. -/
theorem State.Quiet.of_map {s t : State} {f : Group → Group} (hg : t.groups = s.groups.map f) (hf : ∀ r : Group, r.Follows (f r))
    (hr : ∀ r, (f r).state = r.state ∧ (f r).position = r.position ∧ (f r).batchSize = r.batchSize)
    (h : t.queue.entries = s.queue.entries ∧ t.ready = s.ready ∧ t.heldList = s.heldList ∧ t.engine.phase = s.engine.phase ∧
      (t.arbiter.port = .free ↔ s.arbiter.port = .free) ∧ t.upstream.host = s.upstream.host) : s.Quiet t :=
  .of_records (.of_map hg hf) (fun g => by simpa [hg] using hr _) h

theorem State.Quiet.refl (s : State) : s.Quiet s := .of_eq ⟨rfl, rfl, rfl, rfl, rfl, rfl, rfl⟩

theorem State.Quiet.trans {s t u : State} (h : s.Quiet t) (h' : t.Quiet u) : s.Quiet u where
  follows := h.follows.trans h'.follows
  record g := by
    obtain ⟨hs, hp, hb⟩ := h.record g
    obtain ⟨hs', hp', hb'⟩ := h'.record g
    exact ⟨hs'.trans hs, hp'.trans hp, hb'.trans hb⟩
  batch g := (h'.batch g).trans (h.batch g)
  ready := h'.ready.trans h.ready
  heldList := h'.heldList.trans h.heldList
  phase := h'.phase.trans h.phase
  port := h'.port.trans h.port
  host := h'.host.trans h.host

/-- A quiet change leaves every standing. -/
theorem State.Quiet.standing {s t : State} (h : s.Quiet t) (g : GroupId) : t.standing g = s.standing g := by
  obtain ⟨hstate, hposition, hsize⟩ := h.record g
  simp only [State.standing, (h.follows g).config, hstate, hposition, hsize, h.batch, h.ready, h.heldList, h.phase]

/-! ### The operations that concern no batch -/

theorem State.stageWrite_quiet (s : State) (w : StagedWrite) : s.Quiet (s.stageWrite w) :=
  .of_batches (s.batchCount_stageWrite w) (by simp)

theorem State.holdTest_quiet (s : State) : s.Quiet s.holdTest := .of_batches s.batchCount_holdTest (by simp)

theorem State.removeCollecting_quiet (s : State) (g : GroupId) : s.Quiet (s.removeEntries (Entry.inCollecting g)) :=
  .of_batches (s.batchCount_removeCollecting g) (by simp)

theorem State.missTrigger_quiet (s : State) (g : GroupId) (reason : MissedReason) : s.Quiet (s.missTrigger g reason) := by
  have hmissed : s.Quiet (s.updGroup g (Group.miss reason)) :=
    s.updGroup_quiet g (fun _ => .of_kept rfl id id) fun _ => ⟨rfl, rfl, rfl⟩
  exact hmissed.trans (.of_eq ⟨rfl, rfl, rfl, rfl, rfl, rfl, rfl⟩)

theorem State.takeLate_quiet (s : State) (g : GroupId) : s.Quiet (s.takeLate g) := by
  unfold State.takeLate
  split
  · exact s.updGroup_quiet g (fun _ => .of_kept rfl id id) fun _ => ⟨rfl, rfl, rfl⟩
  · exact .refl s

theorem State.armNamed_quiet (groupSet : Byte) (s : State) (g : GroupId) : s.Quiet (State.armNamed groupSet s g) := by
  unfold State.armNamed
  split
  · exact s.updGroup_quiet g Group.arm_follows fun _ => by simp
  · exact .refl s

theorem State.setup_quiet (s : State) (choice : ChannelChoice) (p : Profile) : s.Quiet (s.setup choice p) := by
  refine .of_map (s.setup_groups choice p) (fun r => ?_) (fun r => ?_) ⟨rfl, rfl, rfl, rfl, Iff.rfl, rfl⟩
  · split
    · exact r.arm_follows
    · exact .refl r
  · split <;> simp

/-- A tick counts down the timers (R127). -/
theorem State.countTick_quiet (s : State) : s.Quiet s.countTick := by
  refine .of_map (f := fun r => { r with timer := r.timer.tick }) rfl (fun _ => .of_kept rfl id id) (fun _ => ⟨rfl, rfl, rfl⟩)
    ⟨rfl, rfl, rfl, rfl, ?_, rfl⟩
  show s.arbiter.port.tick = .free ↔ _
  cases s.arbiter.port <;> simp [PortState.tick]

/-! ### What a command is made of -/

/-- What the commands that write no configuration do to the groups, the lists, the engine and the port: one of these after another. -/
inductive State.Moves : State → State → Prop
  | quiet {s t : State} (h : s.Quiet t) : State.Moves s t
  | trans {s t u : State} (h : State.Moves s t) (h' : State.Moves t u) : State.Moves s u
  | requestHost (s : State) (c : UCycle) (w : Option WindowId) (r : Route) : State.Moves s (s.requestHost c w r)
  | takeResponse (s : State) (r : MemResponse) : State.Moves s (s.takeResponse r)
  | takeTimeout (s : State) : State.Moves s s.takeTimeout
  | takeRecovery (s : State) : State.Moves s s.takeRecovery
  | sentOn (s : State) (g : GroupId) (h : s.groups[g].state = .pending ∨ s.groups[g].state = .interval) :
    State.Moves s ((s.updGroup g Group.stopTimer).toReady g).work
  | offerTrigger (s : State) (t : Trigger) : State.Moves s (s.offerTrigger t)
  | stop (s : State) (choice : ChannelChoice) (p : Profile) : State.Moves s (s.stop choice p)
  | changeSources (s : State) (i : InhibitSet) : State.Moves s (s.changeSources i)
  | enable (s : State) (g : GroupId) (h : s.groups[g].state = .disabled) : State.Moves s (s.updGroup g (Group.enter .collecting))
  | disable (s : State) (g : GroupId) (h : s.groups[g].state = .collecting) : State.Moves s (s.updGroup g Group.disable)
  | purgeEntries (s : State) (g : GroupId) (h : s.groups[g].state.purgeable = true) : State.Moves s (s.purgeEntries g)
  | resumeRetry (s : State) (g : GroupId) (h : s.groups[g].state = .faulted) : State.Moves s (s.resumeRetry g)
  | resumeSkip (s : State) (g : GroupId) (h : s.groups[g].state = .faulted) : State.Moves s (s.resumeSkip g)
  | resetDatapath (s : State) : State.Moves s s.resetDatapath

namespace State.Moves

theorem refl (s : State) : s.Moves s := .quiet (.refl s)

/-- The records, the lists, the engine, the port, the host path's cycle and the entries are those before. -/
theorem of_eq {s t : State} (h : t.queue.entries = s.queue.entries ∧ t.groups = s.groups ∧ t.ready = s.ready ∧
    t.heldList = s.heldList ∧ t.engine.phase = s.engine.phase ∧ t.arbiter.port = s.arbiter.port ∧
      t.upstream.host = s.upstream.host) : s.Moves t := .quiet (.of_eq h)

/-- And nothing more happens after that. -/
theorem then_eq {s t u : State} (h : s.Moves t) (h' : u.queue.entries = t.queue.entries ∧ u.groups = t.groups ∧ u.ready = t.ready ∧
    u.heldList = t.heldList ∧ u.engine.phase = t.engine.phase ∧ u.arbiter.port = t.arbiter.port ∧
      u.upstream.host = t.upstream.host) : s.Moves u := .trans h (.of_eq h')

/-- Group after group. -/
theorem foldl {f : State → GroupId → State} (hf : ∀ (u : State) (g : GroupId), u.Moves (f u g)) (l : List GroupId) (s : State) :
    s.Moves (l.foldl f s) :=
  List.foldlRecOn l f (refl s) fun _ hu g _ => hu.trans (hf _ g)

/-! #### Expiries and the tick -/

theorem takeDelay (s : State) (g : GroupId) : s.Moves (s.takeDelay g) := by
  unfold State.takeDelay
  split
  · next h => exact .sentOn s g (.inl h.2)
  · exact refl s

theorem takeInterval (s : State) (g : GroupId) : s.Moves (s.takeInterval g) := by
  unfold State.takeInterval
  split
  · next h => exact .sentOn s g (.inr h.2)
  · exact refl s

theorem takeHoldExpiry (s : State) : s.Moves s.takeHoldExpiry := .of_eq (by simp)

theorem takeCarrierLoss (s : State) : s.Moves s.takeCarrierLoss := by
  unfold State.takeCarrierLoss
  split
  · have hlost : s.Moves ((s.updLink Link.lose).raise .linkState).timeLinkLost := .of_eq (by simp)
    have hdown : ∀ u : State, u.Moves u.inhibitLinkDown := by
      intro u
      unfold State.inhibitLinkDown
      split
      · exact .changeSources u _
      · exact refl u
    unfold State.enterDown
    dsimp only
    split
    · exact hlost.trans (hdown _)
    · exact .trans (.of_eq (by simp)) (hdown ((s.updLink Link.lose).raise .linkState))
  · exact refl s

theorem takeDueExpiries (s : State) : s.Moves s.takeDueExpiries := by
  have hone : ∀ (u : State) (g : GroupId), u.Moves (u.takeGroupExpiry g) := fun u g =>
    ((takeDelay u g).trans (takeInterval _ g)).trans (.quiet (State.takeLate_quiet _ g))
  have hport := ((State.Moves.takeTimeout s).trans (.takeRecovery _)).trans (takeHoldExpiry _)
  exact (hport.trans (foldl hone groupIds _)).trans (takeCarrierLoss _)

/-! #### The bus path -/

theorem routeCycle (s : State) (c : UCycle) (d : Decision) : s.Moves (s.routeCycle c d) := by
  cases d with
  | refused reason w => exact .of_eq (t := s.refuse c.refused reason w) (by simp)
  | passThrough w =>
    simp only [State.routeCycle]
    split
    · exact .of_eq (by simp)
    · exact .requestHost s c w _
  | staged w =>
    simp only [State.routeCycle]
    split
    · exact .of_eq (by simp)
    · exact .quiet (s.stageWrite_quiet w)
  | forwarding i g =>
    simp only [State.routeCycle]
    split
    · exact .of_eq (by simp)
    · unfold State.forwardRead
      dsimp only
      split
      · exact .of_eq (by simp)
      · exact .requestHost s c _ _

/-! #### Frames -/

theorem dispatch (s : State) (source : Origin) (a : FrameAction) : s.Moves (s.dispatch source a) := by
  cases a with
  | trigger c p => exact .offerTrigger s _
  | event code p => exact .trans (.of_eq (by simp)) (.offerTrigger (s.postEvent _) _)
  | inhibit | uninhibit => exact .changeSources s _
  | setup choice p => exact .quiet (s.setup_quiet choice p)
  | stop choice p => exact .stop s choice p
  | epoch => exact .of_eq (t := s.takeEpoch source) (by simp)

theorem frameGood (s : State) (f : FrameFields) : s.Moves (s.frameGood f) := by
  have htested : s.Moves ((s.updLink (Link.record true)).sequenceTest f.sequence) := .of_eq (by simp)
  unfold State.frameGood
  dsimp only
  split
  · unfold State.formatAndDispatch
    split
    · exact htested.trans (dispatch _ _ _)
    · exact htested.then_eq (by simp)
  · exact htested

theorem frameAcquiring (s : State) (good : Bool) : s.Moves (s.frameAcquiring good) := by
  unfold State.frameAcquiring
  dsimp only
  split
  · split
    · unfold State.enterUp State.inhibitLinkUp
      exact .trans (.of_eq (by simp)) (.changeSources _ _)
    · exact .of_eq (by simp)
  · exact .of_eq (by simp)

theorem receiveFrame (s : State) (f : LinkFrame) : s.Moves (s.receiveFrame f) := by
  have htaken : s.Moves (s.updLink fun l => { l with inFrame := false }) := .of_eq (by simp)
  have hbad : ∀ u : State, u.Moves u.frameBad := by
    intro u
    unfold State.frameBad State.fallBack
    dsimp only
    split <;> exact .of_eq (by simp)
  unfold State.receiveFrame
  split
  · refine htaken.trans ?_
    unfold State.settleFrame
    split
    · exact refl _
    · exact frameAcquiring _ _
    · split
      · split
        · exact frameGood _ _
        · exact hbad _
      · exact hbad _
  · exact refl s

/-! #### Messages -/

/-- A message leaves the port alone changed, but for what its action does. -/
theorem settle {s : State} (i : Instr) {act : State → State × Reply} (hact : s.Moves (act s).1) : s.Moves (s.settle i act) := by
  unfold State.settle
  split
  · exact hact.then_eq ⟨rfl, rfl, rfl, rfl, rfl, rfl, rfl⟩
  all_goals exact refl s

/-- A command with an argument, where it is so for each value. -/
theorem withArg {α : Type} {s : State} {arg : Option α} {act : α → State × Reply} (hact : ∀ a, s.Moves (act a).1) :
    s.Moves (s.withArg arg act).1 := by
  cases arg with
  | none => exact refl s
  | some a => exact hact a

/-- INHIBIT_ON_LINK_LOSS is written (R134). -/
theorem setOnLinkLoss (s : State) (v : Bool) : s.Moves (s.setOnLinkLoss v) := by
  have hset : s.Moves { s with inhibit := { s.inhibit with onLinkLoss := v } } := .of_eq ⟨rfl, rfl, rfl, rfl, rfl, rfl, rfl⟩
  unfold State.setOnLinkLoss
  dsimp only
  split
  · exact .trans (by exact hset) (.changeSources _ _)
  · exact hset

theorem localFrame (s : State) (kind profile argument : Byte) : s.Moves (s.localFrame kind profile argument).1 :=
  withArg fun _ => withArg fun _ => withArg fun _ => dispatch s .host _

/-! #### Commands -/

/-- What an event does. -/
theorem of_next {s t u : State} (h : (.next u : Host.Outcome State Fault Refusal) = .next t) (hu : s.Moves u) : s.Moves t := by
  cases h
  exact hu

/-- What an event does that the state of the part lets happen or not. -/
theorem of_ite {s t u v : State} {p : Prop} [Decidable p]
    (h : (if p then .next u else .next v : Host.Outcome State Fault Refusal) = .next t) (hu : s.Moves u) (hv : s.Moves v) :
    s.Moves t := by
  split at h <;> cases h
  · exact hu
  · exact hv

/-- What a message does. -/
theorem of_settle {s t : State} {i : Instr} {act : State → State × Reply}
    (h : (.next (s.settle i act) : Host.Outcome State Fault Refusal) = .next t) (hact : s.Moves (act s).1) : s.Moves t := by
  cases h
  exact settle i hact

end State.Moves

/-- The commands that can write a configuration (R67, R73). -/
def writesConfig (s : State) : Instr → Bool
  | .setGroup _ _ => true
  | .rstAsserted => true
  | .selectReleased => s.mgmt.pendingReset
  | _ => false

/-- Every other command is made of the moves. -/
theorem exec_moves {s t : State} {c : Instr} (hc : writesConfig s c = false) (h : exec c s = .next t) : s.Moves t := by
  cases c
  case setGroup | rstAsserted => cases hc
  -- The bus path and the downstream port.
  case upstreamCycle addr kind cls lanes data =>
    change execUpstreamCycle addr kind cls lanes data s = _ at h
    unfold execUpstreamCycle at h
    split at h
    · exact .of_next h (.refl s)
    · split at h
      · cases h
      · exact .of_next h (.trans (.of_eq (t := s.beginCycle) ⟨rfl, rfl, rfl, rfl, rfl, rfl, rfl⟩) (.routeCycle _ _ _))
  case downstreamResponse r => exact .of_next h (.takeResponse s r)
  case downstreamTimeout => exact .of_next h (.takeTimeout s)
  case recoveryExpiry => exact .of_next h (.takeRecovery s)
  -- Timers, the tick and the timing line.
  case holdExpiry => exact .of_next h (.takeHoldExpiry s)
  case delayExpiry g => exact .of_next h (.takeDelay s g)
  case intervalExpiry g => exact .of_next h (.takeInterval s g)
  case late g => exact .of_next h (.quiet (s.takeLate_quiet g))
  case tick => exact .of_ite h (.refl s) (.trans (.takeDueExpiries s) (.quiet (State.countTick_quiet _)))
  case carrierPresent | lineTransition => exact .of_next h (.of_eq (by simp))
  case carrierLoss => exact .of_next h (.takeCarrierLoss s)
  case frameReceived f => exact .of_next h (.receiveFrame s f)
  case startMarker =>
    exact .of_ite h ((State.Moves.receiveFrame s .truncated).then_eq ⟨rfl, rfl, rfl, rfl, rfl, rfl, rfl⟩) (.refl s)
  -- The pins.
  case trigEdge => exact .of_ite h (.refl s) (.offerTrigger s _)
  case inhChange high =>
    have hpin : s.Moves (s.setInhPin high) := .of_eq ⟨rfl, rfl, rfl, rfl, rfl, rfl, rfl⟩
    exact .of_ite h hpin (hpin.trans (.changeSources _ _))
  case rstReleased => exact .of_ite h (.of_eq ⟨rfl, rfl, rfl, rfl, rfl, rfl, rfl⟩) (.refl s)
  -- The management transaction.
  case selectAsserted =>
    change execSelectAsserted s = _ at h
    unfold execSelectAsserted at h
    split at h
    · exact .of_next h (.refl s)
    · split at h <;> exact .of_next h (.of_eq ⟨rfl, rfl, rfl, rfl, rfl, rfl, rfl⟩)
  case selectReleased =>
    change execSelectReleased s = _ at h
    rw [execSelectReleased, if_neg (show ¬ s.mgmt.pendingReset = true from Bool.eq_false_iff.1 hc)] at h
    exact .of_next h (.of_eq ⟨rfl, rfl, rfl, rfl, rfl, rfl, rfl⟩)
  case responseSent =>
    change execResponseSent s = _ at h
    unfold execResponseSent at h
    split at h
    · exact .of_next h (.of_eq (by simp))
    all_goals exact .of_next h (.refl s)
  -- The messages with no argument.
  case checkError | badCommand | getPath | getTiming | getEpoch | getLink | getStatus | setMask | clearCauses | clearRefusal |
      resetAll =>
    exact .of_settle h (.of_eq ⟨rfl, rfl, rfl, rfl, rfl, rfl, rfl⟩)
  case resetDatapath => exact .of_settle h (.resetDatapath s)
  case takeCompletion | takeEvent | getRefusal =>
    refine .of_settle h ?_
    split <;> exact .of_eq ⟨rfl, rfl, rfl, rfl, rfl, rfl, rfl⟩
  case arm groupSet =>
    exact .of_settle h (.foldl (fun u g => .quiet (State.armNamed_quiet groupSet u g)) groupIds s)
  -- The messages whose arguments are tested first.
  case getWindow | getGroup => exact .of_settle h (.withArg fun _ => .refl s)
  case clearMissed =>
    have hcleared : ∀ g, s.Quiet (s.updGroup g fun r => { r with missed := 0, lastMissed := none }) :=
      fun g => s.updGroup_quiet g (fun _ => .of_kept rfl id id) fun _ => ⟨rfl, rfl, rfl⟩
    exact .of_settle h (.withArg fun g => .quiet (hcleared g))
  case setHostInhibit => exact .of_settle h (.withArg fun _ => .changeSources s _)
  case setWindow =>
    refine .of_settle h (.withArg fun _ => .withArg fun _ => ?_)
    split <;> exact .of_eq ⟨rfl, rfl, rfl, rfl, rfl, rfl, rfl⟩
  case setWindowEnable =>
    exact .of_settle h (.withArg fun _ => .withArg fun _ => .of_eq ⟨rfl, rfl, rfl, rfl, rfl, rfl, rfl⟩)
  case enableGroup =>
    refine .of_settle h (.withArg fun g => ?_)
    split
    · next hg => exact .enable s g hg
    · exact .refl s
  case disableGroup =>
    refine .of_settle h (.withArg fun g => ?_)
    split
    · next hg => exact (State.Moves.disable s g hg).then_eq (by simp)
    · exact .refl s
  case resumeRetry =>
    refine .of_settle h (.withArg fun g => ?_)
    split
    · split
      · next hg => exact .resumeRetry s g hg
      · exact .refl s
    · exact .refl s
  case resumeSkip =>
    refine .of_settle h (.withArg fun g => ?_)
    split
    · next hg => exact .resumeSkip s g hg
    · exact .refl s
  case setPath =>
    refine .of_settle h (.withArg fun _ => ?_)
    split <;> exact .of_eq ⟨rfl, rfl, rfl, rfl, rfl, rfl, rfl⟩
  case purgeCollecting =>
    refine .of_settle h (.withArg fun g => ?_)
    split
    · exact .quiet (s.removeCollecting_quiet g)
    · exact .refl s
  case purgeAll =>
    refine .of_settle h (.withArg fun g => ?_)
    unfold State.purgeAll
    split
    · next hg => exact .purgeEntries s g hg
    · exact .refl s
  case readEntry =>
    refine .of_settle h (.withArg fun _ => ?_)
    split
    · split <;> exact .refl s
    · exact .refl s
  case setTiming =>
    exact .of_settle h (.withArg fun src => .withArg fun c => .withArg fun p => .withArg fun v =>
      .trans (.of_eq (by simp)) (.setOnLinkLoss ((s.setTickSource src).setLocal c p) v))
  case localFrameTrigger | localFrameEvent | localFrameSetup | localFrameStop | localFrameEpoch =>
    exact .of_settle h (.localFrame s _ _ _)

end Sys2Proof.Machine
end

section
/-! PROOFS. The lists, the batches and their counts in step with the states of the groups, through the operations of one group: from a
state in step a group is taken apart, and each way on puts it in step again (R42, R49, R50, R59, R75). -/

namespace Sys2Proof.Machine

open Sys2Proof.Claims

variable {c : Prop} {s t : State} {g : GroupId}

/-! ### Groups in step -/

/-- The counts of a batch (R49). -/
def Standing.Counted (p : Standing) : Prop :=
  (p.mode = .once → p.position + p.queued = p.batchSize) ∧
    (p.mode = .repeating → p.queued = p.batchSize ∧ p.position < p.batchSize)

/-- A group's lists, engine and batch are in step with its state, and where c holds its batch is counted: so one proof serves the
statements with the counts and without. -/
structure Standing.InStep (c : Prop) (p : Standing) : Prop where
  ready : p.ready ↔ p.state = .ready
  held : p.held ↔ p.state = .held
  running : p.running ↔ p.state = .releasing
  queued : p.queued ≠ 0 ↔ p.state.hasBatch = true
  counted : c → p.state.hasBatch = true → p.Counted

/-- Every group is in step, and no list names one twice. -/
structure State.InStep (c : Prop) (s : State) : Prop where
  ready : s.ready.Nodup
  heldList : s.heldList.Nodup
  groups : ∀ g, (s.standing g).InStep c

/-- In the words of the statements. -/
theorem State.inStep_iff : s.InStep c ↔ s.batchesOk ∧ (c → s.countsOk) := by
  constructor
  · intro h
    refine ⟨⟨⟨h.ready, h.heldList, fun g => ?_, fun g => ?_, fun g => ?_⟩, fun g => (h.groups g).queued⟩, fun hc g hb =>
      (h.groups g).counted hc hb⟩
    · simpa [State.standing] using (h.groups g).ready
    · simpa [State.standing] using (h.groups g).held
    · simpa [State.standing] using (h.groups g).running.symm
  · rintro ⟨⟨⟨hready, hheld, hinReady, hinHeld, hrunning⟩, hqueued⟩, hcounts⟩
    refine ⟨hready, hheld, fun g => ⟨?_, ?_, ?_, hqueued g, fun hc hb => hcounts hc g hb⟩⟩
    · simpa [State.standing] using hinReady g
    · simpa [State.standing] using hinHeld g
    · simpa [State.standing] using (hrunning g).symm

/-- The lists and the standings are those before. -/
theorem State.InStep.of_standing (h : s.InStep c) (hr : t.ready = s.ready) (hh : t.heldList = s.heldList)
    (hs : ∀ g, t.standing g = s.standing g) : t.InStep c :=
  ⟨hr ▸ h.ready, hh ▸ h.heldList, fun g => hs g ▸ h.groups g⟩

theorem State.Quiet.inStep (h : s.Quiet t) (hs : s.InStep c) : t.InStep c := hs.of_standing h.ready h.heldList h.standing

/-- A group without a batch, in no list, with no entry in a batch. -/
theorem Standing.InStep.of_noBatch {p : Standing} (hs : p.state.hasBatch = false) (hq : p.queued = 0) (hr : ¬ p.ready) (hh : ¬ p.held)
    (hn : ¬ p.running) : p.InStep c := by
  obtain ⟨state, mode, position, batchSize, queued, ready, held, running⟩ := p
  cases state <;> cases hs <;> constructor <;> simp_all [GroupState.hasBatch]

/-- Empty lists, an empty queue, an engine without a group and groups without a batch. -/
theorem State.inStep_of_empty (hr : t.ready = []) (hh : t.heldList = []) (he : t.queue.entries = [])
    (hp : t.engine.phase.current = none) (hg : ∀ g : GroupId, t.groups[g].state.hasBatch = false) : t.InStep c := by
  refine ⟨by simp [hr], by simp [hh], fun g => .of_noBatch (hg g) ?_ ?_ ?_ ?_⟩
  · simp [State.standing, State.batchCount, he]
  · simp [State.standing, hr]
  · simp [State.standing, hh]
  · simp [State.standing, hp]

/-- The standing of a group without a batch. -/
theorem State.InStep.noBatch (h : s.InStep c) (hg : s.groups[g].state.hasBatch = false) :
    s.batchCount g = 0 ∧ g ∉ s.ready ∧ g ∉ s.heldList ∧ s.engine.phase.current ≠ some g := by
  have hg' := h.groups g
  have hstate : s.groups[g].state ≠ .ready ∧ s.groups[g].state ≠ .held ∧ s.groups[g].state ≠ .releasing := by
    refine ⟨?_, ?_, ?_⟩ <;> intro hs <;> rw [hs] at hg <;> cases hg
  obtain ⟨hready, hheld, hreleasing⟩ := hstate
  refine ⟨?_, ?_, ?_, ?_⟩
  · by_contra hq
    exact absurd (hg'.queued.1 hq) (Bool.eq_false_iff.1 hg)
  · simpa [State.standing] using mt hg'.ready.1 hready
  · simpa [State.standing] using mt hg'.held.1 hheld
  · simpa [State.standing] using mt hg'.running.1 hreleasing

/-- A group is the engine's where it is RELEASING. -/
theorem State.InStep.releasing_iff (h : s.InStep c) : s.engine.phase.current = some g ↔ s.groups[g].state = .releasing := by
  simpa [State.standing] using (h.groups g).running

/-! ### A group taken apart -/

/-- Every group but one is in step. -/
structure State.OthersInStep (c : Prop) (s : State) (g : GroupId) : Prop where
  ready : s.ready.Nodup
  heldList : s.heldList.Nodup
  others : ∀ k, k ≠ g → (s.standing k).InStep c

/-- And that one is in no list. -/
structure State.Apart (c : Prop) (s : State) (g : GroupId) : Prop extends s.OthersInStep c g where
  notReady : g ∉ s.ready
  notHeld : g ∉ s.heldList

/-- Its batch is not empty, and counted. -/
structure State.BatchKept (c : Prop) (s : State) (g : GroupId) : Prop where
  queued : s.batchCount g ≠ 0
  counted : c → (s.standing g).Counted

theorem State.InStep.others (h : s.InStep c) (g : GroupId) : s.OthersInStep c g := ⟨h.ready, h.heldList, fun k _ => h.groups k⟩

/-- A group that is not in the state of a list. -/
theorem State.InStep.apart (h : s.InStep c) (hr : s.groups[g].state ≠ .ready) (hh : s.groups[g].state ≠ .held) : s.Apart c g where
  toOthersInStep := h.others g
  notReady := by simpa [State.standing] using mt (h.groups g).ready.1 hr
  notHeld := by simpa [State.standing] using mt (h.groups g).held.1 hh

theorem State.InStep.batchKept (h : s.InStep c) (hb : s.groups[g].state.hasBatch = true) : s.BatchKept c g :=
  ⟨(h.groups g).queued.2 hb, fun hc => (h.groups g).counted hc hb⟩

/-- The group that was taken apart is in step again, and the others are as they were. -/
theorem State.OthersInStep.inStep (h : s.OthersInStep c g) (hr : t.ready.Nodup) (hh : t.heldList.Nodup)
    (ho : ∀ k, k ≠ g → t.standing k = s.standing k) (hg : (t.standing g).InStep c) : t.InStep c := by
  refine ⟨hr, hh, fun k => ?_⟩
  by_cases hk : k = g
  · exact hk ▸ hg
  · exact ho k hk ▸ h.others k hk

/-- The lists and the other standings are those before. -/
theorem State.Apart.of_standing (h : s.Apart c g) (hr : t.ready = s.ready) (hh : t.heldList = s.heldList)
    (hs : ∀ k, k ≠ g → t.standing k = s.standing k) : t.Apart c g where
  ready := hr ▸ h.ready
  heldList := hh ▸ h.heldList
  others k hk := hs k hk ▸ h.others k hk
  notReady := hr ▸ h.notReady
  notHeld := hh ▸ h.notHeld

/-- An update of a record leaves the other standings. -/
theorem State.updGroup_standing_other (s : State) (f : Group → Group) {k : GroupId} (hk : k ≠ g) :
    (s.updGroup g f).standing k = s.standing k := by
  simp only [State.standing, Fin.getElem_fin, State.updGroup_get, if_neg hk]
  rfl

theorem State.Apart.updGroup (h : s.Apart c g) (f : Group → Group) : (s.updGroup g f).Apart c g :=
  h.of_standing rfl rfl fun _ hk => s.updGroup_standing_other f hk

@[simp] theorem EnginePhase.current_idle : EnginePhase.idle.current = none := rfl

@[simp] theorem EnginePhase.current_draining : EnginePhase.draining.current = none := rfl

@[simp] theorem EnginePhase.current_running (g : GroupId) (stopping : Bool) (claim : Claim) :
    (EnginePhase.running g stopping claim).current = some g := rfl

/-- The engine lets its group go. -/
theorem State.idle_standing_other (hp : s.engine.phase.current = some g) {k : GroupId} (hk : k ≠ g) :
    (s.setPhase .idle).standing k = s.standing k := by
  simp [State.standing, State.batchCount, hp, hk.symm]

theorem State.OthersInStep.idle (h : s.OthersInStep c g) (hp : s.engine.phase.current = some g) :
    (s.setPhase .idle).OthersInStep c g :=
  ⟨h.ready, h.heldList, fun k hk => State.idle_standing_other hp hk ▸ h.others k hk⟩

theorem State.Apart.idle (h : s.Apart c g) (hp : s.engine.phase.current = some g) : (s.setPhase .idle).Apart c g :=
  h.of_standing rfl rfl fun _ hk => State.idle_standing_other hp hk

/-! ### Ways on -/

/-- The end of a batch leaves the group COLLECTING, out of both lists and with no entry in a batch (R62). -/
theorem State.OthersInStep.endBatch (h : s.OthersInStep c g) (hp : s.engine.phase.current ≠ some g) (outcome : BatchOutcome) :
    (s.endBatch g outcome).InStep c := by
  have hposted : ∀ k, (s.postCompletion (s.completionOf g outcome)).batchCount k = s.batchCount k := fun k => by
    simp [State.batchCount]
  refine (State.holdTest_quiet _).inStep (h.inStep ?_ ?_ (fun k hk => ?_) (.of_noBatch ?_ ?_ ?_ ?_ ?_))
  · simpa using h.ready.filter _
  · simpa using h.heldList.filter _
  · rw [State.updGroup_standing_other _ _ hk]
    have hcount := (State.batchCount_withoutEntries _ (Entry.inBatch g) k fun e he => by simp_all [Entry.inBatch]).trans (hposted k)
    simp only [State.standing]
    congr 1
    · simp
    · simp
    · simp
    · simp
    · simp [hk]
    · simp [hk]
    · simp
  · simp [State.standing, Group.endBatch, GroupState.hasBatch]
  · exact State.batchCount_withoutEntries_all _ _ g fun _ he => he
  · simp [State.standing]
  · simp [State.standing]
  · simpa [State.standing] using hp

/-- A group with its batch that enters a state keeps its batch. -/
theorem State.BatchKept.inStep (hb : s.BatchKept c g) {p : Standing} {st : GroupState}
    (hs : p = { s.standing g with state := st, ready := p.ready, held := p.held, running := p.running })
    (hst : st.hasBatch = true) (hr : p.ready ↔ st = .ready) (hh : p.held ↔ st = .held)
    (hn : p.running ↔ st = .releasing) : p.InStep c := by
  have hstate : p.state = st := by rw [hs]
  refine ⟨hstate ▸ hr, hstate ▸ hh, hstate ▸ hn, ?_, fun hc _ => ?_⟩
  · rw [hstate]
    exact ⟨fun _ => hst, fun _ => by rw [hs]; exact hb.queued⟩
  · rw [hs]
    exact hb.counted hc

/-- A group with a batch goes to the tail of the held list. -/
theorem State.Apart.hold (h : s.Apart c g) (hp : s.engine.phase.current ≠ some g) (hb : s.BatchKept c g) :
    State.InStep c { s.updGroup g (Group.enter .held) with heldList := s.heldList ++ [g] } := by
  refine h.inStep h.ready (List.concat_eq_append ▸ h.heldList.concat h.notHeld) (fun k hk => ?_) (hb.inStep (st := .held) ?_ rfl ?_ ?_ ?_)
  · rw [← State.updGroup_standing_other s (Group.enter .held) hk]
    simp [State.standing, hk, State.batchCount]
  · simp [State.standing, Group.enter, State.batchCount]
  · simpa [State.standing] using h.notReady
  · simp [State.standing]
  · simpa [State.standing] using hp

/-- A group with a batch goes on to the tail of the ready list, or of the held list (R140). -/
theorem State.Apart.toReady (h : s.Apart c g) (hp : s.engine.phase.current ≠ some g) (hb : s.BatchKept c g) :
    (s.toReady g).InStep c := by
  unfold State.toReady
  split
  · exact h.hold hp hb
  · refine h.inStep (List.concat_eq_append ▸ h.ready.concat h.notReady) h.heldList (fun k hk => ?_)
      (hb.inStep (st := .ready) ?_ rfl ?_ ?_ ?_)
    · rw [← State.updGroup_standing_other s (Group.enter .ready) hk]
      simp [State.standing, hk, State.batchCount]
    · simp [State.standing, Group.enter, State.batchCount]
    · simp [State.standing]
    · simpa [State.standing] using h.notHeld
    · simpa [State.standing] using hp

/-- A group with a batch stays in a state with no list. -/
theorem State.Apart.rest (h : s.Apart c g) (hp : s.engine.phase.current ≠ some g) (hb : s.BatchKept c g) {st : GroupState}
    (hs : s.groups[g].state = st) (hst : st ∈ [.pending, .interval, .faulted]) : s.InStep c := by
  have hrest : st.hasBatch = true ∧ st ≠ .ready ∧ st ≠ .held ∧ st ≠ .releasing := by
    revert hst; cases st <;> decide
  obtain ⟨hbatch, hready, hheld, hreleasing⟩ := hrest
  refine h.inStep h.ready h.heldList (fun _ _ => rfl) (hb.inStep (st := st) ?_ hbatch ?_ ?_ ?_)
  · simp [State.standing, ← hs]
  · simpa [State.standing, hready] using h.notReady
  · simpa [State.standing, hheld] using h.notHeld
  · simpa [State.standing, hreleasing] using hp

/-- An update of other fields of the record keeps the batch. -/
theorem State.BatchKept.updGroup (hb : s.BatchKept c g) {f : Group → Group}
    (hf : ∀ r, (f r).config = r.config ∧ (f r).position = r.position ∧ (f r).batchSize = r.batchSize) :
    (s.updGroup g f).BatchKept c g := by
  obtain ⟨hconfig, hposition, hsize⟩ := hf s.groups[g.val]
  refine ⟨hb.queued, fun hc => ?_⟩
  simpa [State.standing, Standing.Counted, hconfig, hposition, hsize] using hb.counted hc

/-- What the engine does next is no part of the batch. -/
theorem State.BatchKept.setPhase (hb : s.BatchKept c g) (p : EnginePhase) : (s.setPhase p).BatchKept c g :=
  ⟨hb.queued, hb.counted⟩

/-! ### The end of an entry and of a repetition -/

/-- An entry of the group's batch has been passed: its repetition may be over. -/
structure State.EntryPassed (c : Prop) (s : State) (g : GroupId) : Prop where
  queued : s.groups[g].config.mode = .repeating → s.batchCount g ≠ 0
  once : c → s.groups[g].config.mode = .once → s.groups[g].position + s.batchCount g = s.groups[g].batchSize
  repeating : c → s.groups[g].config.mode = .repeating →
    s.batchCount g = s.groups[g].batchSize ∧ s.groups[g].position ≤ s.groups[g].batchSize

/-- With the repetition underway the batch is not empty, and counted. -/
theorem State.EntryPassed.batchKept (h : s.EntryPassed c g) (hr : s.repetitionEnded g = false) : s.BatchKept c g := by
  unfold State.repetitionEnded at hr
  split at hr
  · next hm =>
    refine ⟨by simpa using hr, fun hc => ⟨fun _ => h.once hc hm, fun hm' => ?_⟩⟩
    exact absurd (hm.symm.trans hm') (by decide)
  · next hm =>
    refine ⟨h.queued hm, fun hc => ⟨fun hm' => ?_, fun _ => ?_⟩⟩
    · exact absurd (hm.symm.trans hm') (by decide)
    · obtain ⟨hq, hp⟩ := h.repeating hc hm
      exact ⟨hq, lt_of_le_of_ne hp (by simpa [State.standing] using hr)⟩

/-- Passing an entry leaves the other standings. -/
theorem State.passEntry_standing_other (s : State) {k : GroupId} (hk : k ≠ g) : (s.passEntry g).standing k = s.standing k := by
  unfold State.passEntry
  split
  · rw [State.updGroup_standing_other _ _ hk]
    simp only [State.standing, State.batchCount_removeOldest_other s hk]
    simp
  · exact State.updGroup_standing_other _ _ hk

theorem State.Apart.passEntry (h : s.Apart c g) : (s.passEntry g).Apart c g :=
  h.of_standing (by simp) (by simp) fun _ hk => s.passEntry_standing_other hk

/-- A ONCE entry that is passed leaves the batch, a REPEAT entry stays; the position moves past it (R78, R80, R87). -/
theorem State.BatchKept.passEntry (hb : s.BatchKept c g) : (s.passEntry g).EntryPassed c g := by
  cases hm : s.groups[g.val].config.mode with
  | once =>
    have hcount := s.batchCount_removeOldest g hb.queued
    rw [s.passEntry_once g hm]
    refine ⟨fun hm' => ?_, fun hc _ => ?_, fun _ hm' => ?_⟩
    · simp [hm] at hm'
    · have hsum := (hb.counted hc).1 hm
      simp only [State.standing] at hsum
      show ((s.removeOldest g).updGroup g _).groups[g.val].position + (s.removeOldest g).batchCount g = _
      simp only [Fin.getElem_fin, State.updGroup_get_self] at hsum ⊢
      simp
      omega
    · simp [hm] at hm'
  | repeating =>
    rw [s.passEntry_repeating g hm]
    refine ⟨fun _ => hb.queued, fun _ hm' => ?_, fun hc _ => ?_⟩
    · simp [hm] at hm'
    · obtain ⟨hq, hp⟩ := (hb.counted hc).2 hm
      simp only [State.standing] at hq hp
      exact ⟨by simpa using hq, by simpa using hp⟩

/-- A repetition end that does not end the batch, of a group in REPEAT (R63). -/
theorem State.Apart.continueBatch (h : s.Apart c g) (hp : s.engine.phase.current ≠ some g)
    (hm : s.groups[g.val].config.mode = .repeating) (hb : s.EntryPassed c g) : (s.continueBatch g).InStep c := by
  have hkept : ∀ f : Group → Group, (∀ r, (f r).config = r.config ∧ (f r).position = 0 ∧ (f r).batchSize = r.batchSize) →
      (s.updGroup g f).BatchKept c g := by
    intro f hf
    obtain ⟨hconfig, hposition, hsize⟩ := hf s.groups[g.val]
    refine ⟨hb.queued hm, fun hc => ⟨fun hm' => ?_, fun _ => ?_⟩⟩
    · simp_all [State.standing]
    · have hq := (hb.repeating hc hm).1
      have hne := hb.queued hm
      refine ⟨?_, ?_⟩
      · simpa [State.standing, hsize] using hq
      · simp only [State.standing, Fin.getElem_fin, State.updGroup_get_self] at hq hposition hsize ⊢
        omega
  cases hl : s.groups[g.val].late with
  | true =>
    rw [s.continueBatch_late g hl]
    have hreset := hkept (fun r => { r with position := 0, late := false }) fun _ => ⟨rfl, rfl, rfl⟩
    have hraised : ∀ f, ((s.updGroup g f).raise .repeatLate).Apart c g := fun f => (h.updGroup f).of_standing rfl rfl fun _ _ => rfl
    exact (hraised _).toReady hp ⟨hreset.queued, hreset.counted⟩
  | false =>
    rw [s.continueBatch_inTime g hl]
    exact (h.updGroup _).rest hp (hkept _ fun _ => ⟨rfl, rfl, rfl⟩) (st := .interval) (by simp) (by decide)

/-- The end of a repetition ends the batch or goes on with it (R61, R63). -/
theorem State.Apart.endRepetition (h : s.Apart c g) (hp : s.engine.phase.current ≠ some g) (hb : s.EntryPassed c g) :
    (s.endRepetition g).InStep c := by
  have hcounted := h.updGroup Group.countRepetition
  cases ho : (s.updGroup g Group.countRepetition).groups[g.val].batchOver with
  | true =>
    rw [s.endRepetition_over g ho]
    exact hcounted.endBatch hp _
  | false =>
    rw [s.endRepetition_on g ho]
    have hm : (s.updGroup g Group.countRepetition).groups[g.val].config.mode = .repeating := by
      unfold Group.batchOver at ho
      split at ho
      · cases ho
      · next hm => exact hm
    refine hcounted.continueBatch hp hm ⟨fun hm' => ?_, fun hc hm' => ?_, fun hc hm' => ?_⟩
    · exact hb.queued (by simpa using hm')
    · simpa using hb.once hc (by simpa using hm')
    · simpa using hb.repeating hc (by simpa using hm')

/-! ### The end of a release write -/

/-- Between entries, the running group's entry having been passed (R82). -/
theorem State.Apart.betweenEntries (h : s.Apart c g) (hp : s.engine.phase.current = some g) (hs : s.groups[g].state = .releasing)
    (hb : s.EntryPassed c g) (stopping : Bool) : (s.betweenEntries g stopping).InStep c := by
  have hidle := h.idle hp
  have hnone : (s.setPhase .idle).engine.phase.current ≠ some g := nofun
  unfold State.betweenEntries
  split
  · have hended := hidle.endRepetition hnone ⟨hb.queued, hb.once, hb.repeating⟩
    unfold State.stopAfterRepetition
    split
    · exact (hended.others g).endBatch (by simp) _
    · exact hended
  · next hr =>
    have hkept := hb.batchKept (Bool.eq_false_iff.2 hr)
    split
    · exact hidle.endBatch hnone _
    · split
      · exact hidle.hold hnone (hkept.setPhase .idle)
      · refine h.inStep h.ready h.heldList (fun k hk => ?_) (hkept.inStep (st := .releasing) ?_ rfl ?_ ?_ ?_)
        · simp only [State.standing, hp]
          rfl
        · simp only [State.standing, Fin.getElem_fin] at hs ⊢
          simp [hs, State.batchCount]
        · simpa [State.standing] using h.notReady
        · simpa [State.standing] using h.notHeld
        · simp [State.standing]

/-- The end of a release write at the engine (R78 to R83). -/
theorem State.InStep.engineEnd (h : s.InStep c) (o : Outstanding) (e : WriteEnd) : (s.engineEnd o e).InStep c := by
  unfold State.engineEnd
  split
  · next k stopping hphase =>
    have hcurrent : s.engine.phase.current = some k := by rw [hphase]; rfl
    have hpassed : ∀ u : State, s.Quiet u → ((u.passEntry k).betweenEntries k stopping).InStep c := by
      intro u hu
      have hstep := hu.inStep h
      have hcur : u.engine.phase.current = some k := by rw [hu.phase, hcurrent]
      have hstate := hstep.releasing_iff.1 hcur
      have hkept : u.BatchKept c k := hstep.batchKept (by rw [hstate]; rfl)
      have hapart : u.Apart c k := hstep.apart (by rw [hstate]; decide) (by rw [hstate]; decide)
      refine hapart.passEntry.betweenEntries (by simpa using hcur) ?_ hkept.passEntry stopping
      unfold State.passEntry
      split <;> simpa using hstate
    cases e with
    | ok => exact hpassed (s.countOk k) (.of_eq ⟨rfl, rfl, rfl, rfl, rfl, rfl, rfl⟩)
    | fault =>
      have hraised : s.Quiet (s.raise .releaseFault) := .of_eq ⟨rfl, rfl, rfl, rfl, rfl, rfl, rfl⟩
      have hcounted : s.Quiet ((s.raise .releaseFault).updGroup k (Group.countFault o.cycle.addr)) :=
        hraised.trans (State.updGroup_quiet _ k (fun _ => .of_kept rfl id id) fun _ => ⟨rfl, rfl, rfl⟩)
      show (s.writeFault k stopping o.cycle.addr).InStep c
      unfold State.writeFault
      dsimp only
      split
      · exact hpassed _ hcounted
      · have hstep := hcounted.inStep h
        have hstate := hstep.releasing_iff.1 hcurrent
        have hkept := hstep.batchKept (g := k) (by rw [hstate]; rfl)
        have hidle := (hstep.apart (g := k) (by rw [hstate]; decide) (by rw [hstate]; decide)).idle hcurrent
        split
        · exact hidle.endBatch nofun _
        · have hentered := (hkept.setPhase .idle).updGroup (f := Group.enter .faulted) fun _ => ⟨rfl, rfl, rfl⟩
          exact (hidle.updGroup _).rest nofun hentered (st := .faulted) (by simp [Group.enter]) (by decide)
  · exact h

end Sys2Proof.Machine
end

section
/-! PROOFS. What follows an event leaves no work waiting, and every command keeps the groups in step: the invariants of every step
(R49, R50, R59, R75, R76, R90). -/

namespace Sys2Proof.Machine

open Sys2Proof.Claims

variable {c : Prop} {s t : State} {g : GroupId}

/-! ### Triggers -/

/-- A cut leaves the other batches. -/
theorem cutState_batchCount_other (s : State) (t : Trigger) {k : GroupId} (hk : k ≠ g) :
    (cutState s t g).batchCount k = s.batchCount k := by
  show (s.queue.entries.map (Entry.cut g)).countP (Entry.inBatch k) = s.queue.entries.countP (Entry.inBatch k)
  rw [List.countP_map]
  refine List.countP_congr fun e _ => ?_
  simp only [Function.comp_apply, Entry.cut]
  split
  · next he =>
    have hgroup : e.group = g := by simp_all [Entry.inCollecting]
    simp [Entry.inBatch, hgroup, hk.symm]
  · rfl

/-- What was collected is the new batch (R29, R54). -/
theorem cutState_batchCount (s : State) (t : Trigger) (h : s.batchCount g = 0) : (cutState s t g).batchCount g = cutSize s g := by
  have hsize : cutSize s g = s.collectingCount g := (s.collectingCount_length g).symm
  rw [hsize]
  show (s.queue.entries.map (Entry.cut g)).countP (Entry.inBatch g) = s.queue.entries.countP (Entry.inCollecting g)
  rw [List.countP_map]
  refine List.countP_congr fun e he => ?_
  have hnot : ¬ e.inBatch g = true := List.countP_eq_zero.1 h e he
  simp only [Function.comp_apply, Entry.cut]
  split
  · next hc => simp_all [Entry.inBatch, Entry.inCollecting]
  · next hc => simp [hnot, hc]

/-- A cut takes the group apart. -/
theorem State.Apart.cutState (h : s.Apart c g) (t : Trigger) : (cutState s t g).Apart c g := by
  refine h.of_standing rfl rfl fun k hk => ?_
  simp only [State.standing, cutState_batchCount_other s t hk]
  simp [Machine.cutState, State.updGroup_get, hk]

/-- A COLLECTING group is cut: an empty batch ends, and one with entries leaves COLLECTING (R54 to R56). -/
theorem State.InStep.cutGroup (h : s.InStep c) (hs : s.groups[g].state = .collecting) (t : Trigger) : (s.cutGroup g t).InStep c := by
  obtain ⟨hzero, hready, hheld, hrunning⟩ := h.noBatch (g := g) (by rw [hs]; rfl)
  have hcut : (Machine.cutState s t g).Apart c g :=
    State.Apart.cutState (h.apart (by rw [hs]; decide) (by rw [hs]; decide)) t
  have hcount := cutState_batchCount s t hzero
  have hrecord : (Machine.cutState s t g).groups[g.val] = cutRecord s.groups[g] t (cutSize s g) := cutState_group s t g
  rw [State.cutGroup_eq]
  split
  · next hz =>
    have hposted : ∀ x, ((Machine.cutState s t g).postCompletion x).Apart c g := fun x =>
      hcut.of_standing (by simp) (by simp) fun _ _ => by simp [State.standing, State.batchCount]
    have hended := (hposted ((Machine.cutState s t g).emptyCompletion g t)).updGroup
      fun r => { r with lastOutcome := some .empty, origin := none }
    refine hended.inStep hended.ready hended.heldList (fun _ _ => rfl) (.of_noBatch ?_ ?_ hended.notReady hended.notHeld ?_)
    · simp [State.standing, State.endEmpty, hrecord, cutRecord, show s.groups[g.val].state = .collecting from hs, GroupState.hasBatch]
    · simpa [State.standing, State.batchCount] using hcount.trans hz
    · simpa [State.standing, Machine.cutState] using hrunning
  · next hz =>
    have hkept : (Machine.cutState s t g).BatchKept c g := by
      refine ⟨hcount ▸ hz, fun _ => ⟨fun _ => ?_, fun _ => ?_⟩⟩
      · simp [State.standing, hcount, hrecord, cutRecord]
      · simpa [State.standing, hcount, hrecord, cutRecord] using Nat.pos_of_ne_zero hz
    unfold State.leaveCollecting
    split
    · exact hcut.toReady hrunning hkept
    · have hpending := hkept.updGroup (f := fun r => { r with state := .pending, timer := .running r.config.delay })
        fun _ => ⟨rfl, rfl, rfl⟩
      exact (hcut.updGroup _).rest hrunning hpending (st := .pending) (by simp) (by decide)

/-- A group settles a trigger by its state (R53). -/
theorem State.InStep.settleTrigger (h : s.InStep c) (t : Trigger) (g : GroupId) : (State.settleTrigger t s g).InStep c := by
  unfold State.settleTrigger
  split
  · unfold State.settleMatch
    split
    · exact h
    · next hs =>
      split
      · exact (s.missTrigger_quiet g _).inStep h
      · exact h.cutGroup hs t
    all_goals exact (s.missTrigger_quiet g _).inStep h
  · exact h

/-! ### STOP -/

/-- A group that a STOP reaches ends its batch, is marked, or is left (R83, R147). -/
theorem State.InStep.stopGroup (h : s.InStep c) (g : GroupId) : (s.stopGroup g).InStep c := by
  have hend : s.groups[g].state ≠ .releasing → (s.endBatch g .stopped).InStep c := fun hs =>
    (h.others g).endBatch (mt h.releasing_iff.1 hs) _
  unfold State.stopGroup
  split
  case h_1 | h_2 => exact h
  case h_3 hs | h_4 hs | h_6 hs | h_7 hs | h_8 hs => exact hend (by rw [hs]; decide)
  case h_5 =>
    unfold State.stopAtEngine
    split
    · next k _ claim hphase =>
      have hcurrent : s.engine.phase.current = some k := by rw [hphase]; rfl
      split
      · next hk =>
        subst hk
        split
        · exact ((h.others k).idle hcurrent).endBatch nofun _
        · exact h.of_standing rfl rfl fun _ => by simp [State.standing, State.batchCount, hcurrent]
      · exact h
    · exact h

/-! ### Inhibit -/

/-- The groups of a list enter a state. -/
theorem State.enterAll_standing (s : State) (l : List GroupId) (st : GroupState) (k : GroupId) :
    (s.enterAll l st).standing k = if k ∈ l then { s.standing k with state := st } else s.standing k := by
  rw [State.enterAll_eq]
  by_cases hk : k ∈ l <;> simp [State.standing, State.batchCount, hk]

/-- The groups of a list with their batches are moved to one of the two lists. -/
theorem State.InStep.relist (h : s.InStep c) {l ready held : List GroupId} {st : GroupState} (hr : ready.Nodup) (hh : held.Nodup)
    (hl : ∀ k ∈ l, s.groups[k].state.hasBatch = true ∧ s.groups[k].state ≠ .releasing) (hst : st = .ready ∨ st = .held)
    (hready : ∀ k, k ∈ ready ↔ if k ∈ l then st = .ready else k ∈ s.ready)
    (hheld : ∀ k, k ∈ held ↔ if k ∈ l then st = .held else k ∈ s.heldList) :
    State.InStep c { s.enterAll l st with ready := ready, heldList := held } := by
  refine ⟨hr, hh, fun k => ?_⟩
  have hlisted : State.standing { s.enterAll l st with ready := ready, heldList := held } k =
      { (s.enterAll l st).standing k with ready := k ∈ ready, held := k ∈ held } := by
    simp [State.standing, State.batchCount]
  rw [hlisted, State.enterAll_standing, hready, hheld]
  by_cases hk : k ∈ l
  · obtain ⟨hbatch, hreleasing⟩ := hl k hk
    have hrunning : ¬ (s.standing k).running := mt (h.groups k).running.1 hreleasing
    simp only [if_pos hk]
    refine (h.batchKept hbatch).inStep (st := st) rfl ?_ Iff.rfl Iff.rfl ?_
    · rcases hst with rfl | rfl <;> rfl
    · rcases hst with rfl | rfl <;> simpa using hrunning
  · simp only [if_neg hk]
    exact h.groups k

/-- The groups of the lists are READY, and HELD. -/
theorem State.InStep.ready_state (h : s.InStep c) {k : GroupId} (hk : k ∈ s.ready) : s.groups[k].state = .ready :=
  (h.groups k).ready.1 hk

theorem State.InStep.held_state (h : s.InStep c) {k : GroupId} (hk : k ∈ s.heldList) : s.groups[k].state = .held :=
  (h.groups k).held.1 hk

theorem State.InStep.disjoint (h : s.InStep c) : s.ready.Disjoint s.heldList := fun k hr hh => by
  have hready := h.ready_state hr
  rw [h.held_state hh] at hready
  cases hready

/-- The engine whose request waits gives its group up to the held list (R84). -/
theorem State.InStep.inhibitEngine (h : s.InStep c) : s.inhibitEngine.InStep c := by
  unfold State.inhibitEngine
  split
  · next k _ hphase =>
    have hcurrent : s.engine.phase.current = some k := by rw [hphase]; rfl
    have hstate := h.releasing_iff.1 hcurrent
    have hapart : s.Apart c k := h.apart (by rw [hstate]; decide) (by rw [hstate]; decide)
    have hkept : s.BatchKept c k := h.batchKept (by rw [hstate]; rfl)
    exact (hapart.idle hcurrent).hold nofun (hkept.setPhase .idle)
  · exact h

/-- The READY groups join the held list (R138). -/
theorem State.InStep.inhibitSet (h : s.InStep c) : s.inhibitSet.InStep c := by
  have hengine := h.inhibitEngine
  refine hengine.relist List.nodup_nil (hengine.heldList.append hengine.ready hengine.disjoint.symm) (fun k hk => ?_) (.inr rfl)
    (fun k => ?_) fun k => ?_
  · rw [hengine.ready_state hk]
    decide
  · by_cases hk : k ∈ s.ready <;> simp [hk]
  · by_cases hk : k ∈ s.ready <;> simp [hk]

/-- The HELD groups join the ready list (R139). -/
theorem State.InStep.releaseAll (h : s.InStep c) :
    State.InStep c { s.enterAll s.heldList .ready with ready := s.ready ++ s.heldList, heldList := [] } := by
  refine h.relist (h.ready.append h.heldList h.disjoint) List.nodup_nil (fun k hk => ?_) (.inl rfl) (fun k => ?_) fun k => ?_
  · rw [h.held_state hk]
    decide
  · by_cases hk : k ∈ s.heldList <;> simp [hk]
  · by_cases hk : k ∈ s.heldList <;> simp [hk]

/-! ### What follows an event -/

/-- The engine's take of the ready list's head (R60, R76). -/
theorem State.InStep.takeHead (h : s.InStep c) : s.takeHead.InStep c := by
  by_cases hidle : s.engine.phase = .idle
  case neg => rwa [s.takeHead_busy hidle]
  cases hlist : s.ready with
  | nil => rwa [s.takeHead_empty hlist]
  | cons g rest =>
    have hmem : g ∈ s.ready := by simp [hlist]
    obtain ⟨hg, hrest⟩ := List.nodup_cons.1 (hlist ▸ h.ready)
    have hkept := h.batchKept (g := g) (by rw [h.ready_state hmem]; rfl)
    rw [s.takeHead_taken g rest hidle hlist]
    refine (h.others g).inStep hrest h.heldList (fun k hk => ?_) (hkept.inStep (st := .releasing) ?_ rfl ?_ ?_ ?_)
    · simp [State.standing, State.batchCount, State.updGroup_get, hlist, hidle, hk, hk.symm]
    · have hstate : (Group.take s.now s.groups[g.val]).state = .releasing := by unfold Group.take; split <;> rfl
      simp [State.standing, State.batchCount, hstate]
    · simpa [State.standing] using hg
    · simpa [State.standing] using fun hheld => h.disjoint hmem hheld
    · simp [State.standing]

/-- The grant decision leaves the engine's state, but for its claim. -/
theorem State.arbitrate_phase (s : State) :
    s.arbitrate.engine.phase = s.engine.phase ∨
      ∃ g stopping, s.engine.phase = .running g stopping .waiting ∧ s.arbitrate.engine.phase = .running g stopping .inFlight := by
  have hengine : s.grantEngine.engine.phase = s.engine.phase ∨
      ∃ g stopping, s.engine.phase = .running g stopping .waiting ∧ s.grantEngine.engine.phase = .running g stopping .inFlight := by
    unfold State.grantEngine
    split
    · next g stopping hphase =>
      split
      · exact .inr ⟨g, stopping, hphase, rfl⟩
      · exact .inl rfl
    · exact .inl rfl
  unfold State.arbitrate
  split
  · split
    · exact .inl (by simp)
    · split
      · exact hengine
      · split <;> exact .inl (by simp)
  · exact .inl rfl

theorem State.arbitrate_current (s : State) : s.arbitrate.engine.phase.current = s.engine.phase.current := by
  rcases s.arbitrate_phase with h | ⟨g, stopping, h, h'⟩
  · rw [h]
  · rw [h, h']; rfl

theorem State.InStep.arbitrate (h : s.InStep c) : s.arbitrate.InStep c :=
  h.of_standing (by simp) (by simp) fun k => by simp [State.standing, State.batchCount, State.arbitrate_current]

theorem State.InStep.work (h : s.InStep c) : s.work.InStep c := h.takeHead.arbitrate

/-! ### No work left waiting -/

/-- A RELEASING group with its batch counted has a next entry (R42). -/
theorem State.InStep.nextEntry (h : s.InStep c) (hc : c) (hs : s.groups[g.val].state = .releasing) :
    ∃ e, s.nextEntry g = some e := by
  have hkept := h.batchKept (g := g) (show s.groups[g.val].state.hasBatch = true by rw [hs]; rfl)
  have hlength : (s.batchOf g).length = s.batchCount g := by rw [State.batchCount, List.countP_eq_length_filter]; rfl
  have hcounted := hkept.counted hc
  have hpos := Nat.pos_of_ne_zero hkept.queued
  refine Option.isSome_iff_exists.1 ?_
  unfold State.nextEntry
  split
  · rw [List.head?_eq_getElem?, List.getElem?_eq_getElem (by omega)]
    rfl
  · next hm =>
    obtain ⟨hq, hp⟩ := hcounted.2 hm
    simp only [State.standing] at hq hp
    rw [List.getElem?_eq_getElem (by omega)]
    rfl

/-- A waiting request of the engine is granted with its group's next entry (R77). -/
theorem State.InStep.grantEngine_port (h : s.InStep c) (hc : c) (hw : s.engineWaiting = true) :
    s.grantEngine.arbiter.port ≠ .free := by
  rw [State.engineWaiting_eq] at hw
  obtain ⟨⟨g, stopping⟩, hr⟩ := Option.isSome_iff_exists.1 hw
  have hphase := engineRequest_some hr
  obtain ⟨e, he⟩ := h.nextEntry hc (h.releasing_iff.1 (show s.engine.phase.current = some g by rw [hphase]; rfl))
  simp [State.grantEngine, hphase, he]

/-- A waiting request of the host path is granted. -/
theorem State.grantHost_port (hw : s.hostWaiting = true) : s.grantHost.arbiter.port ≠ .free := by
  rw [State.hostWaiting_eq] at hw
  obtain ⟨r, hr⟩ := Option.isSome_iff_exists.1 hw
  simp [State.grantHost, hostRequest_some hr]

/-- The grant decision leaves no request at a FREE port (R90, R92). -/
theorem State.InStep.arbitrate_settled (h : s.InStep c) (hc : c) (hr : s.engine.phase = .idle → s.ready = []) :
    settled s.arbitrate := by
  refine ⟨fun hidle => ?_, fun hfree => ?_⟩
  · rcases s.arbitrate_phase with hphase | ⟨_, _, -, hphase⟩
    · simpa using hr (hphase ▸ hidle)
    · rw [hphase] at hidle
      cases hidle
  · by_cases hp : s.arbiter.port = .free
    case neg =>
      rw [s.arbitrate_closed hp] at hfree
      exact absurd hfree hp
    cases he : s.engineWaiting <;> cases hh : s.hostWaiting
    · rw [s.arbitrate_quiet he hh]
      exact ⟨he, hh⟩
    · rw [s.arbitrate_host hp he hh] at hfree
      exact absurd hfree (State.grantHost_port hh)
    · rw [s.arbitrate_engine hp he hh] at hfree
      exact absurd hfree (h.grantEngine_port hc he)
    · rw [s.arbitrate_both hp he hh] at hfree
      split at hfree
      · exact absurd hfree (State.grantHost_port hh)
      · exact absurd hfree (h.grantEngine_port hc he)

/-- The groups are in step, and where c holds no work is left waiting. -/
structure State.AtRest (c : Prop) (s : State) : Prop where
  inStep : s.InStep c
  settled : c → Claims.settled s

/-- What follows an event leaves no work waiting. -/
theorem State.InStep.work_atRest (h : s.InStep c) : s.work.AtRest c := by
  refine ⟨h.work, fun hc => h.takeHead.arbitrate_settled hc fun hidle => ?_⟩
  by_cases hp : s.engine.phase = .idle
  · cases hlist : s.ready with
    | nil => rwa [s.takeHead_empty hlist]
    | cons g rest =>
      rw [s.takeHead_taken g rest hp hlist] at hidle
      cases hidle
  · rw [s.takeHead_busy hp] at hidle
    exact absurd hidle hp

end Sys2Proof.Machine
end

section
/-! PROOFS. Every move, every command and every step keeps the groups in step and leaves no work waiting; every command but the writers
of a configuration keeps the configurations and armed (R49, R50, R59, R67 to R69, R73, R75, R76, R90, R144). -/

namespace Sys2Proof.Machine

open Sys2Proof.Claims

variable {c : Prop} {s t : State} {g : GroupId}

/-! ### What waits at the engine and at the port -/

/-- The list of READY groups, the engine's state and what the port grants are those before. -/
theorem settled_of_eq (hr : t.ready = s.ready) (hp : t.engine.phase = s.engine.phase)
    (ha : t.arbiter.port = .free ↔ s.arbiter.port = .free) (hh : t.hostWaiting = s.hostWaiting) (h : settled s) : settled t := by
  have hw : t.engineWaiting = s.engineWaiting := by simp only [State.engineWaiting, hp]
  refine ⟨?_, ?_⟩
  · rw [hp, hr]
    exact h.1
  · rw [ha, hw, hh]
    exact h.2

theorem State.AtRest.quiet (hs : s.AtRest c) (h : s.Quiet t) : t.AtRest c :=
  ⟨h.inStep hs.inStep, fun hc => settled_of_eq h.ready h.phase h.port h.host (hs.settled hc)⟩

/-- A reset leaves no batch, no list and no request. -/
theorem State.atRest_of_empty (hr : t.ready = []) (hh : t.heldList = []) (he : t.queue.entries = [])
    (hp : t.engine.phase.current = none) (hg : ∀ g : GroupId, t.groups[g].state.hasBatch = false) (hu : t.hostWaiting = false) :
    t.AtRest c := by
  refine ⟨State.inStep_of_empty hr hh he hp hg, fun _ => ⟨fun _ => hr, fun _ => ⟨?_, hu⟩⟩⟩
  unfold State.engineWaiting
  split
  · next hphase =>
    rw [hphase] at hp
    cases hp
  · rfl

/-! ### The port -/

theorem State.InStep.setPort (h : s.InStep c) (p : PortState) : (s.setPort p).InStep c := h.of_standing rfl rfl fun _ => rfl

theorem State.InStep.endDrain (h : s.InStep c) : s.endDrain.InStep c := by
  unfold State.endDrain
  split
  · next hphase => exact h.of_standing rfl rfl fun _ => by simp [State.standing, State.batchCount, hphase]
  · exact h

theorem State.InStep.hostDone (h : s.InStep c) (data : WordData) : (s.hostDone data).InStep c :=
  h.of_standing (by simp) (by simp) fun _ => by simp [State.standing, State.batchCount]

theorem State.InStep.hostFailed (h : s.InStep c) (reason : RefusalReason) : (s.hostFailed reason).InStep c :=
  h.of_standing (by simp) (by simp) fun _ => by simp [State.standing, State.batchCount]

theorem State.InStep.handResponse (h : s.InStep c) (source : PortSource) (o : Outstanding) (r : MemResponse) :
    (s.handResponse source o r).InStep c := by
  cases source <;> cases r
  · exact h.engineEnd o .ok
  · exact h.engineEnd o .fault
  · exact h.hostDone _
  · exact h.hostFailed _

theorem State.InStep.handTimeout (h : s.InStep c) (source : PortSource) (o : Outstanding) : (s.handTimeout source o).InStep c := by
  cases source
  · exact h.engineEnd o .fault
  · exact h.hostFailed _

theorem State.AtRest.takeResponse (hs : s.AtRest c) (r : MemResponse) : (s.takeResponse r).AtRest c := by
  unfold State.takeResponse
  split
  · exact hs
  · exact hs
  · exact (hs.inStep.setPort .free).endDrain.work_atRest
  · exact ((hs.inStep.setPort .free).handResponse _ _ r).work_atRest

theorem State.AtRest.takeTimeout (hs : s.AtRest c) : s.takeTimeout.AtRest c := by
  unfold State.takeTimeout
  split
  · split
    · exact ((hs.inStep.setPort _).handTimeout _ _).work_atRest
    · exact hs
  · next o hp =>
    split
    · exact ⟨hs.inStep.setPort _, fun hc => settled_of_eq (s := s) rfl rfl (by simp [hp]) rfl (hs.settled hc)⟩
    · exact hs
  · exact hs
  · exact hs

theorem State.AtRest.takeRecovery (hs : s.AtRest c) : s.takeRecovery.AtRest c := by
  unfold State.takeRecovery
  split
  · split
    · exact (hs.inStep.setPort .free).endDrain.work_atRest
    · exact hs
  all_goals exact hs

/-- A host request goes to the arbiter (R90). -/
theorem State.AtRest.requestHost (hs : s.AtRest c) (u : UCycle) (w : Option WindowId) (r : Route) : (s.requestHost u w r).AtRest c := by
  have hasked : State.InStep c { s with upstream := { s.upstream with host := some ⟨u, w, r, .waiting⟩ } } :=
    hs.inStep.of_standing rfl rfl fun _ => rfl
  exact ⟨hasked.arbitrate, fun hc => hasked.arbitrate_settled hc (hs.settled hc).1⟩

/-! ### Groups that go on -/

/-- A group with a batch that is in no list and not the engine's goes on. -/
theorem State.InStep.goOn (h : s.InStep c) (hg : s.groups[g].state ∈ [.pending, .interval, .faulted]) {f : Group → Group}
    (hf : ∀ r, (f r).config = r.config ∧ (f r).position = r.position ∧ (f r).batchSize = r.batchSize) :
    ((s.updGroup g f).toReady g).InStep c := by
  have hrest : s.groups[g].state ≠ .ready ∧ s.groups[g].state ≠ .held ∧ s.groups[g].state ≠ .releasing ∧
      s.groups[g].state.hasBatch = true := by
    revert hg; cases s.groups[g].state <;> decide
  obtain ⟨hready, hheld, hreleasing, hbatch⟩ := hrest
  exact ((h.apart hready hheld).updGroup f).toReady (mt h.releasing_iff.1 hreleasing) ((h.batchKept hbatch).updGroup hf)

theorem State.AtRest.sentOn (hs : s.AtRest c) (h : s.groups[g].state = .pending ∨ s.groups[g].state = .interval) :
    ((s.updGroup g Group.stopTimer).toReady g).work.AtRest c := by
  refine (hs.inStep.goOn (f := Group.stopTimer) ?_ fun _ => ⟨rfl, rfl, rfl⟩).work_atRest
  rcases h with h | h <;> rw [h] <;> decide

theorem State.AtRest.resumeRetry (hs : s.AtRest c) (h : s.groups[g].state = .faulted) : (s.resumeRetry g).AtRest c := by
  have hgone := hs.inStep.goOn (g := g) (f := id) (by rw [h]; decide) fun _ => ⟨rfl, rfl, rfl⟩
  rw [show s.updGroup g id = s by simp [State.updGroup]] at hgone
  exact hgone.work_atRest

theorem State.AtRest.resumeSkip (hs : s.AtRest c) (h : s.groups[g].state = .faulted) : (s.resumeSkip g).AtRest c := by
  have hapart : s.Apart c g := hs.inStep.apart (by rw [h]; decide) (by rw [h]; decide)
  have hpassed := (hs.inStep.batchKept (g := g) (by rw [h]; rfl)).passEntry
  have hcurrent : (s.passEntry g).engine.phase.current ≠ some g := by
    simpa using mt hs.inStep.releasing_iff.1 (show s.groups[g].state ≠ .releasing by rw [h]; decide)
  unfold State.resumeSkip
  dsimp only
  split
  · exact (hapart.passEntry.endRepetition hcurrent hpassed).work_atRest
  · next hr => exact (hapart.passEntry.toReady hcurrent (hpassed.batchKept (Bool.eq_false_iff.2 hr))).work_atRest

/-! ### Groups without a batch -/

/-- A group without a batch enters another state without one. -/
theorem State.AtRest.updGroup (hs : s.AtRest c) (h : s.groups[g].state.hasBatch = false) {f : Group → Group}
    (hf : (f s.groups[g]).state.hasBatch = false) : (s.updGroup g f).AtRest c := by
  obtain ⟨hcount, hready, hheld, hrunning⟩ := hs.inStep.noBatch h
  have hstep : (s.updGroup g f).InStep c := by
    refine (hs.inStep.others g).inStep hs.inStep.ready hs.inStep.heldList (fun k hk => s.updGroup_standing_other f hk)
      (.of_noBatch ?_ hcount hready hheld hrunning)
    simpa [State.standing] using hf
  exact ⟨hstep, fun hc => settled_of_eq rfl rfl Iff.rfl rfl (hs.settled hc)⟩

/-- PURGE ALL ends a FAULTED group's batch, and takes from a group without a batch what it collects (R44, R45). -/
theorem State.AtRest.purgeEntries (hs : s.AtRest c) (h : s.groups[g].state.purgeable = true) : (s.purgeEntries g).AtRest c := by
  have hleft : ∀ k, k ≠ g → (s.withoutEntries fun e => e.group == g).batchCount k = s.batchCount k := fun k hk =>
    s.batchCount_withoutGroup hk
  unfold State.purgeEntries
  split
  · next hfaulted =>
    have hothers : (s.withoutEntries fun e => e.group == g).OthersInStep c g := by
      refine ⟨hs.inStep.ready, hs.inStep.heldList, fun k hk => ?_⟩
      simp only [State.standing, hleft k hk]
      exact hs.inStep.groups k
    exact (hothers.endBatch (mt hs.inStep.releasing_iff.1 (by rw [hfaulted]; decide)) _).work_atRest
  · next hfaulted =>
    have hbatch : s.groups[g].state.hasBatch = false := by
      revert h hfaulted; cases s.groups[g].state <;> decide
    have hnone : (s.withoutEntries fun e => e.group == g).batchCount g = s.batchCount g := by
      rw [(hs.inStep.noBatch hbatch).1]
      exact s.batchCount_withoutEntries_all _ g fun e he => by simp_all [Entry.inBatch]
    have hcount : ∀ k, (s.withoutEntries fun e => e.group == g).batchCount k = s.batchCount k := by
      intro k
      by_cases hk : k = g
      · exact hk ▸ hnone
      · exact hleft k hk
    have hquiet : s.Quiet (s.withoutEntries fun e => e.group == g) := .of_batches hcount ⟨rfl, rfl, rfl, rfl, rfl, rfl⟩
    exact hs.quiet (hquiet.trans (State.holdTest_quiet _))

/-! ### Triggers, STOP, inhibit and RESET_DATAPATH -/

theorem State.AtRest.offerTrigger (hs : s.AtRest c) (t : Trigger) : (s.offerTrigger t).AtRest c :=
  (List.foldlRecOn groupIds (State.settleTrigger t) hs.inStep fun _ hu g _ => hu.settleTrigger t g).work_atRest

theorem State.InStep.stopReached (h : s.InStep c) (choice : ChannelChoice) (p : Profile) (g : GroupId) :
    (State.stopReached choice p s g).InStep c := by
  unfold State.stopReached
  split
  · exact h.stopGroup g
  · exact h

theorem State.AtRest.stop (hs : s.AtRest c) (choice : ChannelChoice) (p : Profile) : (s.stop choice p).AtRest c := by
  have hdisarmed : s.Quiet { s.raise .stopReceived with groups := s.groups.map (Group.disarmBy choice p) } :=
    .of_map rfl (Group.disarmBy_follows choice p) (fun _ => by simp) ⟨rfl, rfl, rfl, rfl, Iff.rfl, rfl⟩
  exact (List.foldlRecOn groupIds (State.stopReached choice p) (hdisarmed.inStep hs.inStep) fun _ hu g _ =>
    hu.stopReached choice p g).work_atRest

/-- The engine asks for nothing under inhibit (R84). -/
theorem State.inhibitEngine_waiting (s : State) : s.inhibitEngine.engineWaiting = false := by
  unfold State.inhibitEngine
  split
  · rfl
  · next hphase =>
    unfold State.engineWaiting
    split
    · next k stopping h => exact absurd h (hphase k stopping)
    · rfl

/-- Inhibit that becomes set leaves no READY group and no request of the engine. -/
theorem State.AtRest.inhibitSet (hs : s.AtRest c) : s.inhibitSet.AtRest c := by
  refine ⟨hs.inStep.inhibitSet, fun hc => ⟨fun _ => rfl, fun hfree => ⟨?_, ?_⟩⟩⟩
  · have hengine : s.inhibitSet.engine = s.inhibitEngine.engine := by simp [State.inhibitSet]
    rw [State.engineWaiting, hengine]
    exact s.inhibitEngine_waiting
  · have hfree' : s.arbiter.port = .free := by simpa using hfree
    simpa [State.hostWaiting] using ((hs.settled hc).2 hfree').2

theorem State.AtRest.changeSources (hs : s.AtRest c) (i : InhibitSet) : (s.changeSources i).AtRest c := by
  have hset : s.Quiet (s.setSources i) := .of_eq ⟨rfl, rfl, rfl, rfl, rfl, rfl, rfl⟩
  have hraised : s.Quiet ((s.setSources i).raise .inhibitChange) := .of_eq ⟨rfl, rfl, rfl, rfl, rfl, rfl, rfl⟩
  unfold State.changeSources
  dsimp only
  split
  · exact hs.quiet hset
  · split
    · exact (hs.quiet hraised).inhibitSet
    · exact (hs.quiet hraised).inStep.releaseAll.work_atRest

/-- A reset command leaves the engine without a group (R98). -/
theorem PortState.enginePhase_current (p : PortState) : p.enginePhase.current = none := by cases p <;> rfl

/-- And the host path without a cycle (R17). -/
theorem State.retryUpstream_host (s : State) : s.retryUpstream.upstream.host = none := by
  rw [State.retryUpstream_eq]
  unfold retried
  split <;> simp_all

theorem State.hostWaiting_none (h : s.upstream.host = none) : s.hostWaiting = false := by simp [State.hostWaiting, h]

theorem State.resetDatapath_atRest (s : State) : s.resetDatapath.AtRest c := by
  refine State.atRest_of_empty rfl rfl rfl ?_ (fun g => ?_) (State.hostWaiting_none s.retryUpstream_host)
  · exact PortState.enginePhase_current _
  · simp only [State.resetDatapath, Group.resetDatapath, Fin.getElem_fin, Vector.getElem_map]
    split <;> rfl

/-! ### Moves -/

/-- Every move keeps the groups in step and leaves no work waiting. -/
theorem State.Moves.atRest (h : s.Moves t) (hs : s.AtRest c) : t.AtRest c := by
  induction h with
  | quiet h => exact hs.quiet h
  | trans _ _ ih ih' => exact ih' (ih hs)
  | requestHost s u w r => exact hs.requestHost u w r
  | takeResponse s r => exact hs.takeResponse r
  | takeTimeout s => exact hs.takeTimeout
  | takeRecovery s => exact hs.takeRecovery
  | sentOn s g h => exact hs.sentOn h
  | offerTrigger s t => exact hs.offerTrigger t
  | stop s choice p => exact hs.stop choice p
  | changeSources s i => exact hs.changeSources i
  | enable s g h => exact hs.updGroup (by rw [h]; rfl) rfl
  | disable s g h => exact hs.updGroup (by rw [h]; rfl) rfl
  | purgeEntries s g h => exact hs.purgeEntries h
  | resumeRetry s g h => exact hs.resumeRetry h
  | resumeSkip s g h => exact hs.resumeSkip h
  | resetDatapath s => exact s.resetDatapath_atRest

/-- Every move keeps the configurations, and armed right. -/
theorem State.Moves.follows (h : s.Moves t) : s.Follows t := by
  induction h with
  | quiet h => exact h.follows
  | trans _ _ ih ih' => exact ih.trans ih'
  | requestHost s u w r => exact .of_groups (by simp)
  | takeResponse s r => exact s.takeResponse_follows r
  | takeTimeout s => exact s.takeTimeout_follows
  | takeRecovery s => exact s.takeRecovery_follows
  | sentOn s g h => exact s.sentOn_follows g
  | offerTrigger s t => exact s.offerTrigger_follows t
  | stop s choice p => exact s.stop_follows choice p
  | changeSources s i => exact s.changeSources_follows i
  | enable s g h => exact s.enter_follows g (by decide)
  | disable s g h => exact s.updGroup_follows g Group.disable_follows
  | purgeEntries s g h => exact s.purgeEntries_follows g
  | resumeRetry s g h => exact (s.toReady_follows g).trans (State.work_follows _)
  | resumeSkip s g h => exact s.resumeSkip_follows g
  | resetDatapath s => exact .of_map (by simp [State.resetDatapath]) Group.resetDatapath_follows

end Sys2Proof.Machine
end

section
/-! PROOFS. The writers of a configuration, and the invariants of every step that rest on the groups (R49, R50, R59, R67 to R69, R73, R75,
R76, R90, R144). -/

namespace Sys2Proof.Machine

open Sys2Proof.Claims

variable {c : Prop} {s t : State} {g : GroupId}

/-! ### The writers of a configuration -/

/-- What a command does to the groups: moves, a configuration of a group without a batch, or a reset. -/
inductive State.Effect (s : State) : Instr → State → Prop
  | moves {i : Instr} {t : State} (h : s.Moves t) : State.Effect s i t
  | configure {n : Byte} {a : GroupArgs} {t : State} (g : GroupId) (cfg : GroupConfig) (hn : n.toNat = g.val)
      (hs : s.groups[g].state = .disabled ∨ s.groups[g].state = .collecting)
      (h : (s.updGroup g (Group.configure cfg)).Quiet t) : State.Effect s (.setGroup n a) t
  | pinReset : State.Effect s .rstAsserted s.pinReset
  | resetAll (h : s.mgmt.pendingReset = true) : State.Effect s .selectReleased s.endTransaction.resetAll

/-- A group named by its number. -/
theorem groupArg_toNat {n : Byte} (h : groupArg n = some g) : n.toNat = g.val := by
  unfold groupArg at h
  split at h
  · cases h
    rfl
  · cases h

/-- SET_GROUP configures a group without a batch, or does nothing but answer (R67). -/
theorem execSetGroup_effect {n : Byte} {a : GroupArgs} (h : execSetGroup n a s = .next t) : s.Effect (.setGroup n a) t := by
  have hport : ∀ u m, State.Quiet u { u with mgmt := m } := fun u m => .of_eq ⟨rfl, rfl, rfl, rfl, rfl, rfl, rfl⟩
  cases h
  unfold State.settle
  split
  case h_2 | h_3 | h_4 => exact .moves (.refl s)
  cases hg : groupArg n with
  | none => exact .moves (.quiet (hport s _))
  | some g =>
    cases ha : configOfArgs a with
    | none => exact .moves (.quiet (hport s _))
    | some cfg =>
      simp only [State.withArg]
      split
      · exact .moves (.quiet (hport s _))
      · next hs =>
        split
        · exact .moves (.quiet (hport s _))
        · have hconfigured : (s.updGroup g (Group.configure cfg)).Quiet (s.configureGroup g cfg) := by
            unfold State.configureGroup
            dsimp only
            split
            · exact State.holdTest_quiet _
            · exact .refl _
          exact .configure g cfg (groupArg_toNat hg) ((GroupState.configurable_iff _).1 (by simpa using hs))
            (hconfigured.trans (hport _ _))

theorem exec_effect {i : Instr} (h : exec i s = .next t) : s.Effect i t := by
  cases hi : writesConfig s i with
  | false => exact .moves (exec_moves hi h)
  | true =>
    cases i
    case setGroup => exact execSetGroup_effect h
    case rstAsserted =>
      cases h
      exact .pinReset
    case selectReleased =>
      replace hi : s.mgmt.pendingReset = true := hi
      change execSelectReleased s = _ at h
      rw [execSelectReleased, if_pos hi] at h
      cases h
      exact .resetAll hi
    all_goals cases hi

/-- A reset leaves every record at its reset values (R73). -/
theorem State.pinReset_group (s : State) (g : GroupId) : s.pinReset.groups[g] = Group.reset := Vector.getElem_replicate g.isLt

theorem State.resetAll_group (s : State) (g : GroupId) : s.resetAll.groups[g] = Group.reset := Vector.getElem_replicate g.isLt

theorem State.pinReset_atRest (s : State) : s.pinReset.AtRest c :=
  State.atRest_of_empty rfl rfl rfl rfl (fun g => by rw [s.pinReset_group]; rfl) rfl

theorem State.resetAll_atRest (s : State) : s.resetAll.AtRest c :=
  State.atRest_of_empty rfl rfl rfl (PortState.enginePhase_current _) (fun g => by rw [s.resetAll_group]; rfl)
    (State.hostWaiting_none s.retryUpstream_host)

/-! ### Commands -/

/-- Every command keeps the groups in step and leaves no work waiting. -/
theorem State.Effect.atRest {i : Instr} (h : s.Effect i t) (hs : s.AtRest c) : t.AtRest c := by
  cases h with
  | moves h => exact h.atRest hs
  | configure g cfg _ hstate h =>
    have hbatch : s.groups[g].state.hasBatch = false := by
      rcases hstate with hstate | hstate <;> rw [hstate] <;> rfl
    exact (hs.updGroup hbatch hbatch).quiet h
  | pinReset => exact s.pinReset_atRest
  | resetAll _ => exact State.resetAll_atRest _

/-- Every command keeps armed right (R68, R69, R73, R144). -/
theorem State.Effect.armedOk {i : Instr} (h : s.Effect i t) (hs : s.armedOk) : t.armedOk := by
  cases h with
  | moves h => exact fun k => (h.follows k).armed (hs k)
  | configure g cfg _ _ h =>
    refine fun k => (h.follows k).armed ?_
    simp only [Fin.getElem_fin, State.updGroup_get]
    split
    · exact nofun
    · exact hs k
  | pinReset =>
    intro k
    rw [s.pinReset_group]
    exact nofun
  | resetAll _ =>
    intro k
    rw [State.resetAll_group]
    exact nofun

/-- What changes a configuration (R67, R73). -/
theorem State.Effect.config_changed {i : Instr} (h : s.Effect i t) (hne : t.groups[g].config ≠ s.groups[g].config) :
    (∃ n args, i = .setGroup n args ∧ n.toNat = g.val ∧ (s.groups[g].state = .disabled ∨ s.groups[g].state = .collecting)) ∨
      i = .rstAsserted ∨ (i = .selectReleased ∧ s.mgmt.pendingReset = true) := by
  cases h with
  | moves h => exact absurd (h.follows g).config hne
  | configure k cfg hn hstate h =>
    by_cases hk : g = k
    · subst hk
      exact .inl ⟨_, _, rfl, hn, hstate⟩
    · refine absurd ((h.follows g).config.trans ?_) hne
      simp [State.updGroup_get, hk]
  | pinReset => exact .inr (.inl rfl)
  | resetAll hp => exact .inr (.inr ⟨rfl, hp⟩)

/-! ### Steps -/

/-- What every command keeps, and every change that concerns no batch, every step keeps. -/
theorem step_keeps {P : State → Prop} (hq : ∀ s t : State, s.Quiet t → P s → P t)
    (hc : ∀ (i : Instr) (s t : State), s.Effect i t → P s → P t) (h : step s = .next t) (hs : P s) : P t := by
  have hport : ∀ m q k, P { s with mgmt := m, pending := q, clocks := k } := fun m q k =>
    hq s _ (.of_eq ⟨rfl, rfl, rfl, rfl, rfl, rfl, rfl⟩) hs
  unfold step at h
  split at h
  · unfold State.takeClock at h
    split at h
    · cases h
      exact hs
    · next bit rest _ =>
      have hrest : P { s with clocks := rest } := hport _ _ _
      rcases State.clockPeriod_cases { s with clocks := rest } bit with ⟨-, hn⟩ | ⟨-, -, ⟨_, _, _, hn⟩ | ⟨i, hi⟩⟩
      · cases hn.symm.trans h
        exact hrest
      · cases hn.symm.trans h
        exact hport _ _ _
      · exact hc i _ _ (exec_effect (hi.symm.trans h)) hrest
  · next rest _ => exact hc _ _ _ (exec_effect h) (hport _ rest _)

theorem step_atRest (h : step s = .next t) (hs : s.AtRest c) : t.AtRest c :=
  step_keeps (P := State.AtRest c) (fun _ _ hq hs => hs.quiet hq) (fun _ _ _ he hs => he.atRest hs) h hs

/-! ### The statements -/

/-- Settles O11: the invariant without the counts. -/
theorem stepsKeepListsAndBatches : Obligations.StepsKeepListsAndBatches := by
  intro s t hs h
  have hrest : s.AtRest False := ⟨State.inStep_iff.2 ⟨hs, False.elim⟩, False.elim⟩
  exact (State.inStep_iff.1 (step_atRest h hrest).inStep).1

/-- Settles O12: the invariant with the counts. -/
theorem stepsLeaveNoWorkWaiting : Obligations.StepsLeaveNoWorkWaiting := by
  intro s t hbatches hcounts _ hsettled h
  have hrest : s.AtRest True := ⟨State.inStep_iff.2 ⟨hbatches, fun _ => hcounts⟩, fun _ => hsettled⟩
  obtain ⟨hstep, hsettled'⟩ := step_atRest h hrest
  exact ⟨(State.inStep_iff.1 hstep).2 trivial, hsettled' trivial⟩

/-- Settles O13: armed stays right from record to record, and a configuration or a reset clears it. -/
theorem stepsKeepArmedToArmableGroups : Obligations.StepsKeepArmedToArmableGroups := fun _ _ hs h =>
  step_keeps (fun _ _ hq hs k => (hq.follows k).armed (hs k)) (fun _ _ _ he hs => he.armedOk hs) h hs

/-- Settles O21: every other command keeps the configurations. -/
theorem batchesKeepTheirConfiguration : Obligations.BatchesKeepTheirConfiguration := fun _ _ _ _ h hne =>
  (exec_effect h).config_changed hne

end Sys2Proof.Machine
end

section
/-! PROOFS. What the engine, the timers and RESUME do to one group, in the statements' words (R42, R61, R63, R78 to
R83, R85 to R87, R140). -/

namespace Sys2Proof.Machine

open Sys2Proof.Claims

variable {s : State} {g : GroupId} {stopping : Bool} {o : Outstanding} {how : WriteResult}

/-! ### Passing an entry -/

/-- A change of a record that keeps its configuration does not concern the test for a held write. -/
theorem State.holdTest_updGroup (s : State) (g : GroupId) {f : Group → Group} (hf : ∀ r, (f r).config = r.config) :
    (s.updGroup g f).holdTest = s.holdTest.updGroup g f := by
  have hspace : ∀ k, (s.updGroup g f).spaceFor k = s.spaceFor k := by
    intro k
    simp only [State.spaceFor, State.updGroup_get, Fin.getElem_fin]
    split
    · next hk =>
      subst hk
      rw [hf]
      rfl
    · rfl
  cases hw : s.queue.held with
  | none => rw [s.holdTest_none hw, (s.updGroup g f).holdTest_none hw]
  | some w =>
    cases hs : s.spaceFor w.group with
    | true =>
      rw [s.holdTest_space w hw hs, (s.updGroup g f).holdTest_space w hw ((hspace _).trans hs)]
      rfl
    | false => rw [s.holdTest_full w hw hs, (s.updGroup g f).holdTest_full w hw ((hspace _).trans hs)]

/-- An entry passed (R78, R80, R87). -/
theorem State.passEntry_eq (s : State) (g : GroupId) : s.passEntry g = passed s g := by
  have hfirst : Entry.inBatch g = fun e => Decidable.decide (Claims.inBatch g e) := funext (Entry.inBatch_eq g)
  unfold passed
  cases hm : s.groups[g.val].config.mode with
  | once =>
    rw [s.passEntry_once g hm, State.removeOldest,
      ← State.holdTest_updGroup _ g (f := fun r => { r with position := r.position + 1 }) fun _ => rfl, State.holdTest_eq, hfirst]
    rfl
  | repeating =>
    rw [s.passEntry_repeating g hm]
    rfl

/-- The repetition has ended (R42). -/
theorem State.repetitionEnded_iff (s : State) (g : GroupId) : s.repetitionEnded g = true ↔ repetitionOver s g := by
  have hnone : s.batchCount g = 0 ↔ ∀ e ∈ s.queue.entries, ¬ inBatch g e := by
    simp only [State.batchCount, List.countP_eq_zero, Entry.inBatch_eq, decide_eq_true_eq]
  unfold State.repetitionEnded repetitionOver
  cases s.groups[g].config.mode with
  | once => simpa using hnone
  | repeating => simp

/-! ### Going on, and the end of a repetition -/

/-- A group goes on to READY or HELD (R140). -/
theorem State.toReady_eq (s : State) (g : GroupId) : s.toReady g = goesOn s g := by
  unfold goesOn
  by_cases hi : s.inhibited = true
  · rw [s.toReady_inhibited g hi, if_pos hi]
    rfl
  · rw [s.toReady_clear g (Bool.eq_false_iff.2 hi), if_neg hi]
    rfl

/-- The batch ends at this repetition end (R61). -/
theorem State.batchOver_iff (s : State) (g : GroupId) : s.groups[g].batchOver = true ↔ lastRepetition s g := by
  unfold Group.batchOver lastRepetition
  cases s.groups[g].config.mode <;> simp

/-- A repetition end that does not end the batch (R63). -/
theorem State.continueBatch_eq (s : State) (g : GroupId) : s.continueBatch g = repeats s g := by
  by_cases hl : s.groups[g].late = true
  · rw [s.continueBatch_late g hl, State.toReady_eq, repeats, if_pos hl]
    rfl
  · rw [s.continueBatch_inTime g (Bool.eq_false_iff.2 hl), repeats, if_neg hl]
    rfl

/-- A repetition end (R61, R63). -/
theorem State.endRepetition_eq (s : State) (g : GroupId) :
    s.endRepetition g =
      if lastRepetition (repetitionCounted s g) g then batchEnd (repetitionCounted s g) g (endOutcome (repetitionCounted s g).groups[g])
      else repeats (repetitionCounted s g) g := by
  have hover : (repetitionCounted s g).groups[g.val].batchOver = true ↔ _ := (repetitionCounted s g).batchOver_iff g
  split
  · next hl =>
    rw [s.endRepetition_over g (hover.2 hl), State.endBatch_eq]
    rfl
  · next hl =>
    rw [s.endRepetition_on g (Bool.eq_false_iff.2 (mt hover.1 hl)), State.continueBatch_eq]
    rfl

/-- The end of a batch leaves the group COLLECTING (R62). -/
theorem State.endBatch_state (s : State) (g : GroupId) (outcome : BatchOutcome) : (s.endBatch g outcome).groups[g].state = .collecting := by
  simp [State.endBatch, Group.endBatch]

/-- A batch that goes on leaves its group with it. -/
theorem State.continueBatch_state (s : State) (g : GroupId) : (s.continueBatch g).groups[g].state ≠ .collecting := by
  cases hl : s.groups[g.val].late with
  | true =>
    rw [s.continueBatch_late g hl]
    unfold State.toReady
    split <;> simp [Group.enter]
  | false =>
    rw [s.continueBatch_inTime g hl]
    simp

/-- A batch that has ended is stopped by nothing. -/
theorem State.stopAfterRepetition_ended (h : s.groups[g].state = .collecting) (stopping : Bool) :
    s.stopAfterRepetition g stopping = s := by
  simp only [State.stopAfterRepetition, h, bne_self_eq_false, Bool.and_false, Bool.false_eq_true, if_false]

/-- A batch that would go on ends where it is marked stopping (R83). -/
theorem State.stopAfterRepetition_on (h : s.groups[g].state ≠ .collecting) (stopping : Bool) :
    s.stopAfterRepetition g stopping = if stopping = true then s.endBatch g .stopped else s := by
  simp only [State.stopAfterRepetition, bne_iff_ne.2 h, Bool.and_true]

/-- The end of a repetition of a batch that may be marked stopping (R61, R63, R83). -/
theorem State.stopAfterRepetition_endRepetition (s : State) (g : GroupId) (stopping : Bool) :
    (s.endRepetition g).stopAfterRepetition g stopping =
      if lastRepetition (repetitionCounted s g) g then batchEnd (repetitionCounted s g) g (endOutcome (repetitionCounted s g).groups[g])
      else if stopping = true then batchEnd (repeats (repetitionCounted s g) g) g .stopped
      else repeats (repetitionCounted s g) g := by
  rw [State.endRepetition_eq]
  split
  · rw [← State.endBatch_eq]
    exact State.stopAfterRepetition_ended (State.endBatch_state _ g _) stopping
  · rw [← State.continueBatch_eq, State.stopAfterRepetition_on (State.continueBatch_state _ g), State.endBatch_eq]

/-! ### The end of a release write -/

/-- DONE at the engine (R78). -/
theorem State.engineEnd_ok (hp : s.engine.phase = .running g stopping .inFlight) :
    s.engineEnd o .ok = ((s.countOk g).passEntry g).betweenEntries g stopping := by
  simp only [State.engineEnd, hp]
  rfl

/-- A fault at the engine under SKIP (R79, R80). -/
theorem State.engineEnd_skip (hp : s.engine.phase = .running g stopping .inFlight) (hf : s.groups[g].config.faultPolicy = .skip) :
    s.engineEnd o .fault =
      ((((s.raise .releaseFault).updGroup g (Group.countFault o.cycle.addr)).passEntry g).betweenEntries g stopping) := by
  have hf' : ((s.raise .releaseFault).updGroup g (Group.countFault o.cycle.addr)).groups[g].config.faultPolicy = .skip := by
    simpa using hf
  simp only [State.engineEnd, hp, State.writeFault, hf']

/-- A fault at the engine under HALT (R79, R81, R83). -/
theorem State.engineEnd_halt (hp : s.engine.phase = .running g stopping .inFlight) (hf : s.groups[g].config.faultPolicy = .halt) :
    s.engineEnd o .fault =
      if stopping then (((s.raise .releaseFault).updGroup g (Group.countFault o.cycle.addr)).setPhase .idle).endBatch g .stopped
      else (((s.raise .releaseFault).updGroup g (Group.countFault o.cycle.addr)).setPhase .idle).updGroup g (Group.enter .faulted) := by
  have hf' : ((s.raise .releaseFault).updGroup g (Group.countFault o.cycle.addr)).groups[g].config.faultPolicy = .halt := by
    simpa using hf
  simp only [State.engineEnd, hp, State.writeFault, hf']

/-- A release write that ends with DONE, or with a fault under SKIP, passes its entry (R78, R80). -/
theorem exec_ending_passed {data : WordData} (h : writeInFlight s g stopping o how)
    (hs : how = .done ∨ s.groups[g].config.faultPolicy = .skip) :
    exec (ending data how) s = .next (((writeOver s g o how).passEntry g).betweenEntries g stopping).work := by
  obtain ⟨hphase, hport, hdue⟩ := h
  cases how with
  | done =>
    show Host.Outcome.next (s.takeResponse (.done data)) = _
    simp only [State.takeResponse, hport, State.handResponse, State.engineEnd_ok (s := s.setPort .free) hphase]
    rfl
  | error =>
    have hskip := hs.resolve_left nofun
    show Host.Outcome.next (s.takeResponse .error) = _
    simp only [State.takeResponse, hport, State.handResponse, State.engineEnd_skip (s := s.setPort .free) hphase hskip]
    rfl
  | timeout =>
    have hskip := hs.resolve_left nofun
    show Host.Outcome.next s.takeTimeout = _
    simp only [State.takeTimeout, hport, hdue rfl, if_true, State.handTimeout,
      State.engineEnd_skip (s := s.setPort (.recovering o.recover)) hphase hskip]
    rfl

/-- A release write that faults under HALT stops the engine (R81, R83). -/
theorem exec_ending_halted {data : WordData} (h : writeInFlight s g stopping o how) (hne : how ≠ .done)
    (hs : s.groups[g].config.faultPolicy = .halt) :
    exec (ending data how) s = .next (if stopping then ((writeOver s g o how).setPhase .idle).endBatch g .stopped
      else ((writeOver s g o how).setPhase .idle).updGroup g (Group.enter .faulted)).work := by
  obtain ⟨hphase, hport, hdue⟩ := h
  cases how with
  | done => exact absurd rfl hne
  | error =>
    show Host.Outcome.next (s.takeResponse .error) = _
    simp only [State.takeResponse, hport, State.handResponse, State.engineEnd_halt (s := s.setPort .free) hphase hs]
    rfl
  | timeout =>
    show Host.Outcome.next s.takeTimeout = _
    simp only [State.takeTimeout, hport, hdue rfl, if_true, State.handTimeout,
      State.engineEnd_halt (s := s.setPort (.recovering o.recover)) hphase hs]
    rfl

/-- Settles O31: the entry is passed, and the repetition that it ends is counted and settled. -/
theorem releaseWritesEndTheRepetition : Obligations.ReleaseWritesEndTheRepetition := by
  intro s g stopping o how data hw hs hover
  rw [← State.passEntry_eq] at hover ⊢
  rw [exec_ending_passed hw hs, State.betweenEntries, if_pos ((State.repetitionEnded_iff _ g).2 hover),
    State.stopAfterRepetition_endRepetition, State.work_eq]
  rfl

/-- Settles O32: the fault is counted, and the engine lets the group go. -/
theorem faultsUnderHaltStopTheGroup : Obligations.FaultsUnderHaltStopTheGroup := by
  intro s g stopping o how data hw hne hs
  rw [exec_ending_halted hw hne hs, State.work_eq, State.endBatch_eq]
  rfl

/-! ### Timers, RESUME and CLEAR_MISSED -/

/-- Settles O34: each expiry by the group's state. -/
theorem groupTimersExpire : Obligations.GroupTimersExpire := by
  intro s g hdue
  refine ⟨fun hst => ?_, fun hst => ?_, fun hu hst => ?_⟩
  · show Host.Outcome.next (s.takeDelay g) = _
    rw [State.takeDelay, if_pos ⟨hdue, hst⟩, State.toReady_eq, State.work_eq]
    rfl
  · show Host.Outcome.next (s.takeInterval g) = _
    rw [State.takeInterval, if_pos ⟨hdue, hst⟩, State.toReady_eq, State.work_eq]
    rfl
  · have hlate : s.groups[g].state.canBeLate = true := by
      revert hst
      cases s.groups[g].state <;> decide
    show Host.Outcome.next (s.takeLate g) = _
    rw [State.takeLate, if_pos ⟨hdue, hu, hlate⟩]
    rfl

/-- RESUME with SKIP (R61, R63, R87). -/
theorem State.resumeSkip_eq (s : State) (g : GroupId) :
    s.resumeSkip g = afterwards (
      let u := passed s g
      let v := repetitionCounted u g
      if ¬ repetitionOver u g then goesOn u g
      else if lastRepetition v g then batchEnd v g (endOutcome v.groups[g])
      else repeats v g) := by
  simp only [State.resumeSkip, State.work_eq, State.passEntry_eq, State.endRepetition_eq, State.toReady_eq, State.repetitionEnded_iff,
    ite_not]

/-- Settles O55: FAULTED goes on, every other state and every bad argument is refused. -/
theorem resumeRetriesOrSkips : Obligations.ResumeRetriesOrSkips := by
  intro s hc
  refine ⟨fun g hst => ⟨?_, ?_⟩, fun g hst => ⟨?_, ?_⟩, fun n choice _ hbad => ?_, fun n hn => ?_⟩
  · refine answers_of_settle hc rfl ?_
    rw [groupArg_num, State.withArg_some, if_pos (show (0 : Byte) = 0#8 from rfl), if_pos hst, State.resumeRetry, State.work_eq,
      State.toReady_eq]
    rfl
  · refine answers_of_settle hc rfl ?_
    rw [groupArg_num, State.withArg_some, if_pos hst, State.resumeSkip_eq]
    rfl
  · refine answers_of_settle hc rfl ?_
    rw [groupArg_num, State.withArg_some, if_pos (show (0 : Byte) = 0#8 from rfl), if_neg hst]
    rfl
  · refine answers_of_settle hc rfl ?_
    rw [groupArg_num, State.withArg_some, if_neg hst]
    rfl
  · refine answers_of_settle hc rfl ?_
    rcases hbad with hn | hchoice
    · exact State.withArg_bad (.inl (groupArg_bad hn))
    · exact State.withArg_bad (.inr fun g => if_neg hchoice)
  · exact answers_of_settle hc rfl (State.withArg_bad (.inl (groupArg_bad hn)))

/-- Settles O53: one update of the named group, in every state. -/
theorem clearMissedClearsTheCount : Obligations.ClearMissedClearsTheCount := by
  intro s hc
  refine ⟨fun g => ?_, fun n hn => ?_⟩
  · exact answers_of_settle hc rfl (by rw [groupArg_num, State.withArg_some]; rfl)
  · exact answers_of_settle hc rfl (State.withArg_bad (.inl (groupArg_bad hn)))

end Sys2Proof.Machine
end

section
/-! PROOFS. What changes the lists of the groups only as effective inhibit lets it, and nothing at the port (R59, R84, R90, R91, R138 to
R140). -/

namespace Sys2Proof.Machine

variable {s t u : State} {g : GroupId}

/-! ### Changes within the lists -/

/-- The port, the cycles of both paths and the inhibit sources are those before; a write is held only where one was; and under inhibit
no group has become READY and no request of the engine waits, without it no group has become HELD. -/
structure State.Orderly (s t : State) : Prop where
  withheld : s.inhibited = true → s.ready = [] → s.engineWaiting = false → t.ready = [] ∧ t.engineWaiting = false
  letGo : s.inhibited = false → s.heldList = [] → t.heldList = []
  inFlight : t.engine.phase.inFlight = s.engine.phase.inFlight
  draining : t.engine.phase = .draining ↔ s.engine.phase = .draining
  port : t.arbiter.port = s.arbiter.port
  host : t.upstream.host = s.upstream.host
  held : s.queue.held = none → t.queue.held = none
  sources : t.inhibit.sources = s.inhibit.sources
  pins : t.pins = s.pins

/-- The engine's request is told by its state. -/
theorem State.engineWaiting_of_phase (h : t.engine.phase = s.engine.phase) : t.engineWaiting = s.engineWaiting := by
  simp only [State.engineWaiting, h]

/-- Effective inhibit is told by the source set (R137). -/
theorem State.inhibited_of_sources (h : t.inhibit.sources = s.inhibit.sources) : t.inhibited = s.inhibited := by
  simp only [State.inhibited, h]

/-- The lists and the engine's state are those before, too. -/
theorem State.Orderly.of_eq (h : t.ready = s.ready ∧ t.heldList = s.heldList ∧ t.engine.phase = s.engine.phase ∧
    t.arbiter.port = s.arbiter.port ∧ t.upstream.host = s.upstream.host ∧ (s.queue.held = none → t.queue.held = none) ∧
      t.inhibit.sources = s.inhibit.sources ∧ t.pins = s.pins) : s.Orderly t := by
  obtain ⟨hready, hlist, hphase, hport, hhost, hheld, hsources, hpins⟩ := h
  exact ⟨fun _ hr hw => ⟨hready.trans hr, (State.engineWaiting_of_phase hphase).trans hw⟩, fun _ hl => hlist.trans hl, by rw [hphase],
    by rw [hphase], hport, hhost, hheld, hsources, hpins⟩

theorem State.Orderly.refl (s : State) : s.Orderly s := .of_eq ⟨rfl, rfl, rfl, rfl, rfl, id, rfl, rfl⟩

theorem State.Orderly.trans (h : s.Orderly t) (h' : t.Orderly u) : s.Orderly u where
  withheld hi hr hw := by
    obtain ⟨hr', hw'⟩ := h.withheld hi hr hw
    exact h'.withheld ((State.inhibited_of_sources h.sources).trans hi) hr' hw'
  letGo hi hl := h'.letGo ((State.inhibited_of_sources h.sources).trans hi) (h.letGo hi hl)
  inFlight := h'.inFlight.trans h.inFlight
  draining := h'.draining.trans h.draining
  port := h'.port.trans h.port
  host := h'.host.trans h.host
  held := h'.held ∘ h.held
  sources := h'.sources.trans h.sources
  pins := h'.pins.trans h.pins

/-- Group after group. -/
theorem State.Orderly.foldl {f : State → GroupId → State} (hf : ∀ (u : State) (g : GroupId), u.Orderly (f u g)) (l : List GroupId)
    (s : State) : s.Orderly (l.foldl f s) :=
  List.foldlRecOn l f (.refl s) fun _ hu g _ => hu.trans (hf _ g)

/-! ### The queue and the lists -/

/-- The test for a held write holds none (R32). -/
theorem State.holdTest_orderly (s : State) : s.Orderly s.holdTest :=
  .of_eq ⟨by simp, by simp, by simp, by simp, by simp, fun h => by rwa [s.holdTest_none h], by simp, by simp⟩

/-- So do the removals, which make that test (R41, R42). -/
theorem State.removeEntries_orderly (s : State) (p : Entry → Bool) : s.Orderly (s.removeEntries p) := by
  refine .trans (.of_eq ?_) (State.holdTest_orderly (s.withoutEntries p))
  exact ⟨rfl, rfl, rfl, rfl, rfl, id, rfl, rfl⟩

theorem State.removeOldest_orderly (s : State) (g : GroupId) : s.Orderly (s.removeOldest g) := by
  refine .trans (.of_eq ?_) (State.holdTest_orderly _)
  exact ⟨rfl, rfl, rfl, rfl, rfl, id, rfl, rfl⟩

/-- A group goes on to the list that effective inhibit names (R140). -/
theorem State.toReady_orderly (s : State) (g : GroupId) : s.Orderly (s.toReady g) := by
  have hrest : s.Orderly (s.updGroup g id) := .of_eq (by simp)
  cases hi : s.inhibited with
  | true =>
    rw [s.toReady_inhibited g hi]
    exact { hrest with withheld := fun _ hr hw => ⟨hr, hw⟩, letGo := fun hn => absurd (hi.symm.trans hn) (by decide) }
  | false =>
    rw [s.toReady_clear g hi]
    exact { hrest with withheld := fun hn => absurd (hi.symm.trans hn) (by decide), letGo := fun _ hl => hl }

/-- A group leaves both lists (R59). -/
theorem State.leaveLists_orderly (s : State) (g : GroupId) : s.Orderly (s.leaveLists g) :=
  ⟨fun _ hr hw => ⟨by simp [hr], hw⟩, fun _ hl => by simp [hl], rfl, Iff.rfl, rfl, rfl, id, rfl, rfl⟩

/-- The end of a batch takes its group out of them (R62). -/
theorem State.endBatch_orderly (s : State) (g : GroupId) (outcome : BatchOutcome) : s.Orderly (s.endBatch g outcome) := by
  have hposted : s.Orderly ((s.postCompletion (s.completionOf g outcome)).withoutEntries (Entry.inBatch g)) := .of_eq (by simp)
  unfold State.endBatch
  exact (hposted.trans (State.leaveLists_orderly _ g)).trans (.trans (.of_eq (by simp)) (State.holdTest_orderly _))

/-- An entry passed leaves the lists (R78, R80, R87). -/
theorem State.passEntry_orderly (s : State) (g : GroupId) : s.Orderly (s.passEntry g) := by
  unfold State.passEntry
  split
  · exact (s.removeOldest_orderly g).trans (.of_eq (by simp))
  · exact .of_eq (by simp)

/-- The end of a repetition (R61, R63). -/
theorem State.endRepetition_orderly (s : State) (g : GroupId) : s.Orderly (s.endRepetition g) := by
  have hcounted : s.Orderly (s.updGroup g Group.countRepetition) := .of_eq (by simp)
  unfold State.endRepetition State.continueBatch
  dsimp only
  split
  · exact hcounted.trans (State.endBatch_orderly _ g _)
  · split
    · exact (hcounted.trans (.of_eq (by simp))).trans (State.toReady_orderly _ g)
    · exact hcounted.trans (.of_eq (by simp))

/-- And with the stopping mark (R82, case 1). -/
theorem State.stopAfterRepetition_orderly (s : State) (g : GroupId) (stopping : Bool) : s.Orderly (s.stopAfterRepetition g stopping) := by
  unfold State.stopAfterRepetition
  split
  · exact s.endBatch_orderly g _
  · exact .refl s

/-! ### Triggers and STOP -/

/-- A cut sends its group on to the list that effective inhibit names (R54 to R56). -/
theorem State.cutGroup_orderly (s : State) (g : GroupId) (t : Trigger) : s.Orderly (s.cutGroup g t) := by
  have hcut : s.Orderly (cutState s t g) := .of_eq ⟨rfl, rfl, rfl, rfl, rfl, id, rfl, rfl⟩
  rw [State.cutGroup_eq]
  split
  · exact hcut.trans (.of_eq (by simp))
  · unfold State.leaveCollecting
    split
    · exact hcut.trans (State.toReady_orderly _ g)
    · exact hcut.trans (.of_eq (by simp))

/-- A group settles a trigger by its state (R52, R53). -/
theorem State.settleTrigger_orderly (s : State) (t : Trigger) (g : GroupId) : s.Orderly (State.settleTrigger t s g) := by
  have hmissed : ∀ reason, s.Orderly (s.missTrigger g reason) := fun reason => .of_eq (by simp)
  unfold State.settleTrigger
  split
  · unfold State.settleMatch
    split
    · exact .refl s
    · split
      · exact hmissed _
      · exact s.cutGroup_orderly g t
    all_goals exact hmissed _
  · exact .refl s

/-- A STOP at the running group withdraws a waiting request, and leaves a write in flight there (R83). -/
theorem State.stopAtEngine_orderly (s : State) (g : GroupId) : s.Orderly (s.stopAtEngine g) := by
  unfold State.stopAtEngine
  split
  · next cur _ claim hphase =>
    split
    · split
      · have hidle : s.Orderly (s.setPhase .idle) :=
          ⟨fun _ hr _ => ⟨hr, rfl⟩, fun _ hl => hl, by rw [hphase]; rfl, by simp [hphase], rfl, rfl, id, rfl, rfl⟩
        exact hidle.trans (State.endBatch_orderly _ g _)
      · exact ⟨fun _ hr _ => ⟨hr, rfl⟩, fun _ hl => hl, by rw [hphase]; rfl, by simp [hphase], rfl, rfl, id, rfl, rfl⟩
    · exact .refl s
  · exact .refl s

/-- A group that a STOP reaches (R147). -/
theorem State.stopReached_orderly (choice : ChannelChoice) (p : Profile) (s : State) (g : GroupId) :
    s.Orderly (State.stopReached choice p s g) := by
  unfold State.stopReached
  split
  · unfold State.stopGroup
    split
    case h_1 | h_2 => exact .refl s
    case h_5 => exact s.stopAtEngine_orderly g
    all_goals exact s.endBatch_orderly g _
  · exact .refl s

/-! ### The engine -/

/-- The idle engine takes a READY group, of which there is none under inhibit (R76). -/
theorem State.takeHead_orderly (s : State) : s.Orderly s.takeHead := by
  by_cases hidle : s.engine.phase = .idle
  case neg => rw [s.takeHead_busy hidle]; exact .refl s
  cases hlist : s.ready with
  | nil => rw [s.takeHead_empty hlist]; exact .refl s
  | cons g rest =>
    rw [s.takeHead_taken g rest hidle hlist]
    exact ⟨fun _ hr => absurd (hlist.symm.trans hr) nofun, fun _ hl => hl, by rw [hidle]; rfl, by simp [hidle], rfl, rfl, id, rfl, rfl⟩

/-- A state of the engine to which the end of its write can take it: idle, or without inhibit asking for its next entry (R82). -/
def State.FreedTo (s : State) (p : EnginePhase) : Prop :=
  p = .idle ∨ s.inhibited = false ∧ ∃ g, p = .running g false .waiting

/-- Between entries the engine goes to one of these states, and its group to its list (R82). -/
theorem State.betweenEntries_orderly (s : State) (g : GroupId) (stopping : Bool) :
    ∃ p, s.FreedTo p ∧ (s.setPhase p).Orderly (s.betweenEntries g stopping) := by
  unfold State.betweenEntries
  split
  · exact ⟨.idle, .inl rfl, (State.endRepetition_orderly _ g).trans (State.stopAfterRepetition_orderly _ g stopping)⟩
  · split
    · exact ⟨.idle, .inl rfl, State.endBatch_orderly _ g _⟩
    · split
      · next hi =>
        have hheld := (s.setPhase .idle).toReady_orderly g
        rw [(s.setPhase .idle).toReady_inhibited g hi] at hheld
        exact ⟨.idle, .inl rfl, hheld⟩
      · next hi => exact ⟨_, .inr ⟨Bool.eq_false_iff.2 hi, g, rfl⟩, .refl _⟩

/-- So does the end of its write (R78 to R81). -/
theorem State.engineEnd_orderly {stopping : Bool} (hphase : s.engine.phase = .running g stopping .inFlight) (o : Outstanding)
    (e : WriteEnd) : ∃ p, s.FreedTo p ∧ (s.setPhase p).Orderly (s.engineEnd o e) := by
  have hpassed : ∀ v : State, (∀ p, (s.setPhase p).Orderly (v.setPhase p)) →
      ∃ p, s.FreedTo p ∧ (s.setPhase p).Orderly ((v.passEntry g).betweenEntries g stopping) := by
    intro v hv
    obtain ⟨p, hp, hbetween⟩ := (v.passEntry g).betweenEntries_orderly g stopping
    have hsources : (v.passEntry g).inhibited = s.inhibited :=
      State.inhibited_of_sources ((v.passEntry_orderly g).sources.trans (hv p).sources)
    have hset : (v.setPhase p).Orderly ((v.passEntry g).setPhase p) :=
      .of_eq ⟨by simp, by simp, by simp, by simp, by simp, (v.passEntry_orderly g).held, by simp, by simp⟩
    exact ⟨p, by rwa [State.FreedTo, ← hsources], ((hv p).trans hset).trans hbetween⟩
  cases e with
  | ok =>
    rw [State.engineEnd_ok hphase]
    exact hpassed _ fun _ => .of_eq ⟨rfl, rfl, rfl, rfl, rfl, id, rfl, rfl⟩
  | fault =>
    cases hf : s.groups[g].config.faultPolicy with
    | skip =>
      rw [State.engineEnd_skip hphase hf]
      exact hpassed _ fun _ => .of_eq ⟨rfl, rfl, rfl, rfl, rfl, id, rfl, rfl⟩
    | halt =>
      have hcounted : (s.setPhase .idle).Orderly
          (((s.raise .releaseFault).updGroup g (Group.countFault o.cycle.addr)).setPhase .idle) :=
        .of_eq ⟨rfl, rfl, rfl, rfl, rfl, id, rfl, rfl⟩
      rw [State.engineEnd_halt hphase hf]
      refine ⟨.idle, .inl rfl, ?_⟩
      split
      · exact hcounted.trans (State.endBatch_orderly _ g _)
      · exact hcounted.trans (.of_eq ⟨rfl, rfl, rfl, rfl, rfl, id, rfl, rfl⟩)

end Sys2Proof.Machine
end

section
/-! PROOFS. The one cycle on the downstream port, and effective inhibit in force: what each operation at the port and each change of the
inhibit sources keeps of both (R75, R84, R90, R91, R98, R135, R137 to R139). -/

namespace Sys2Proof.Machine

variable {s t u : State} {g : GroupId}

/-! ### The cycle on the port -/

/-- The engine in this state, and the host path with its cycle in flight or not, know of the cycle on the port: its source has it in
flight and nobody else has one, and the engine is DRAINING at a DRAINING port, and elsewhere at a closed port alone. -/
def PortState.KnownTo : PortState → EnginePhase → Bool → Prop
  | .free, phase, hostInFlight => phase.inFlight = false ∧ hostInFlight = false ∧ phase ≠ .draining
  | .busy .engine _, phase, hostInFlight => phase.inFlight = true ∧ hostInFlight = false
  | .busy .host _, phase, hostInFlight => phase.inFlight = false ∧ hostInFlight = true ∧ phase ≠ .draining
  | .recovering _, phase, hostInFlight => phase.inFlight = false ∧ hostInFlight = false
  | .draining _, phase, hostInFlight => phase = .draining ∧ hostInFlight = false

section KnownTo

variable {phase : EnginePhase} {b : Bool} {o : Outstanding}

theorem PortState.knownTo_free :
    PortState.free.KnownTo phase b ↔ phase.inFlight = false ∧ b = false ∧ phase ≠ .draining := Iff.rfl

theorem PortState.knownTo_engine : (PortState.busy .engine o).KnownTo phase b ↔ phase.inFlight = true ∧ b = false := Iff.rfl

theorem PortState.knownTo_host :
    (PortState.busy .host o).KnownTo phase b ↔ phase.inFlight = false ∧ b = true ∧ phase ≠ .draining := Iff.rfl

theorem PortState.knownTo_recovering : (PortState.recovering o).KnownTo phase b ↔ phase.inFlight = false ∧ b = false := Iff.rfl

theorem PortState.knownTo_draining : (PortState.draining o).KnownTo phase b ↔ phase = .draining ∧ b = false := Iff.rfl

end KnownTo

/-- In the words of the statement. -/
theorem PortState.knownTo_iff (p : PortState) (phase : EnginePhase) (b : Bool) :
    p.KnownTo phase b ↔ phase.inFlight = p.ofEngine ∧ b = p.ofHost ∧ (phase = .draining → p.closed = true) ∧
      ∀ o, p = .draining o → phase = .draining := by
  cases p with
  | free => simp [PortState.knownTo_free, PortState.ofEngine, PortState.ofHost, PortState.closed]
  | recovering => simp [PortState.knownTo_recovering, PortState.ofEngine, PortState.ofHost, PortState.closed]
  | draining o =>
    have hnone : phase = .draining → phase.inFlight = false := fun h => by rw [h]; rfl
    constructor
    · rintro ⟨hd, hb⟩
      exact ⟨hnone hd, hb, fun _ => rfl, fun _ _ => hd⟩
    · rintro ⟨-, hb, -, hd⟩
      exact ⟨hd o rfl, hb⟩
  | busy source =>
    have hrunning : phase.inFlight = true → phase ≠ .draining := fun h hd => by rw [hd] at h; cases h
    cases source with
    | engine => simpa [PortState.knownTo_engine, PortState.ofEngine, PortState.ofHost, PortState.closed] using fun h _ => hrunning h
    | host => simp [PortState.knownTo_host, PortState.ofEngine, PortState.ofHost, PortState.closed]

/-- The port is right where both know of its cycle, and no more than one upstream cycle is unanswered. -/
theorem State.portOk_iff : s.portOk ↔ s.arbiter.port.KnownTo s.engine.phase s.upstream.inFlight ∧
    (s.queue.held = none ∨ s.upstream.host = none) := by
  simp only [State.portOk, PortState.knownTo_iff, and_assoc]

/-- A write in flight is the running group's. -/
theorem EnginePhase.inFlight_iff {phase : EnginePhase} :
    phase.inFlight = true ↔ ∃ g stopping, phase = .running g stopping .inFlight := by
  unfold EnginePhase.inFlight
  split <;> simp_all

/-- A host path without a cycle has none in flight. -/
theorem Upstream.inFlight_none {v : Upstream} (h : v.host = none) : v.inFlight = false := by simp [Upstream.inFlight, h]

/-! ### What every command keeps -/

/-- Out of reset effective inhibit is in force at the lists and at the engine, and PIN follows the pin. -/
structure State.InForce (s : State) : Prop where
  released : s.pins.rst = false
  withheld : s.inhibited = true → s.ready = [] ∧ s.engineWaiting = false
  letGo : s.inhibited = false → s.heldList = []
  pin : s.inhibit.sources.pin = s.pins.inhHigh

/-- Inhibit stays in force, and the port stays with one cycle that its source knows of. -/
structure State.Sound (s t : State) : Prop where
  inForce : s.InForce → t.InForce
  port : s.portOk → t.portOk

theorem State.Sound.refl (s : State) : s.Sound s := ⟨id, id⟩

theorem State.Sound.trans (h : s.Sound t) (h' : t.Sound u) : s.Sound u := ⟨h'.inForce ∘ h.inForce, h'.port ∘ h.port⟩

/-- What the engine waits for, what the lists hold, and the pins, tell whether inhibit is in force. -/
theorem State.InForce.of_lists (hs : s.InForce)
    (hw : s.inhibited = true → s.ready = [] → s.engineWaiting = false → t.ready = [] ∧ t.engineWaiting = false)
    (hl : s.inhibited = false → s.heldList = [] → t.heldList = []) (hsources : t.inhibit.sources = s.inhibit.sources)
    (hpins : t.pins = s.pins) : t.InForce := by
  have hinhibited := State.inhibited_of_sources hsources
  refine ⟨hpins ▸ hs.released, fun hi => ?_, fun hi => ?_, by rw [hsources, hpins]; exact hs.pin⟩
  · rw [hinhibited] at hi
    obtain ⟨hr, hw'⟩ := hs.withheld hi
    exact hw hi hr hw'
  · rw [hinhibited] at hi
    exact hl hi (hs.letGo hi)

/-- The lists, the engine's state, the sources and the pins are those before. -/
theorem State.InForce.of_eq (hs : s.InForce) (h : t.ready = s.ready ∧ t.heldList = s.heldList ∧ t.engine.phase = s.engine.phase ∧
    t.inhibit.sources = s.inhibit.sources ∧ t.pins = s.pins) : t.InForce := by
  obtain ⟨hready, hlist, hphase, hsources, hpins⟩ := h
  exact hs.of_lists (fun _ hr hw => ⟨hready.trans hr, (State.engineWaiting_of_phase hphase).trans hw⟩) (fun _ hl => hlist.trans hl)
    hsources hpins

/-- The port, the host path's cycle and what the engine has in flight are those before. -/
theorem State.portOk.of_kept (hs : s.portOk) (hf : t.engine.phase.inFlight = s.engine.phase.inFlight)
    (hd : t.engine.phase = .draining ↔ s.engine.phase = .draining) (hp : t.arbiter.port = s.arbiter.port)
    (hh : t.upstream.host = s.upstream.host) (hq : s.queue.held = none → t.queue.held = none) : t.portOk := by
  obtain ⟨hengine, hhost, hdraining, hport, hone⟩ := hs
  have hflight : t.upstream.inFlight = s.upstream.inFlight := by simp only [Upstream.inFlight, hh]
  refine ⟨?_, ?_, fun h => ?_, fun o ho => hd.2 (hport o (hp ▸ ho)), hone.imp hq fun hn => hh.trans hn⟩
  · rw [hp, hf, hengine]
  · rw [hp, hflight, hhost]
  · rw [hp]
    exact hdraining (hd.1 h)

/-- An orderly change keeps both. -/
theorem State.Orderly.sound (h : s.Orderly t) : s.Sound t where
  inForce hs := hs.of_lists h.withheld h.letGo h.sources h.pins
  port hs := hs.of_kept h.inFlight h.draining h.port h.host h.held

/-- Nothing that either is made of has changed. -/
theorem State.Sound.of_eq (h : t.ready = s.ready ∧ t.heldList = s.heldList ∧ t.engine.phase = s.engine.phase ∧
    t.arbiter.port = s.arbiter.port ∧ t.upstream.host = s.upstream.host ∧ (s.queue.held = none → t.queue.held = none) ∧
      t.inhibit.sources = s.inhibit.sources ∧ t.pins = s.pins) : s.Sound t := (State.Orderly.of_eq h).sound

/-! ### The grant decision -/

/-- A cycle of the host path on the port. -/
theorem State.grantHost_portOk (hs : s.portOk) (hp : s.arbiter.port = .free) : s.grantHost.portOk := by
  unfold State.grantHost
  split
  · next h hh =>
    obtain ⟨hknown, hone⟩ := State.portOk_iff.1 hs
    rw [hp, PortState.knownTo_free] at hknown
    obtain ⟨hflight, -, hdraining⟩ := hknown
    exact State.portOk_iff.2 ⟨PortState.knownTo_host.2 ⟨hflight, rfl, hdraining⟩, .inl (hone.resolve_right (by simp [hh]))⟩
  · exact hs

/-- A release write on the port. -/
theorem State.grantEngine_portOk (hs : s.portOk) (hp : s.arbiter.port = .free) : s.grantEngine.portOk := by
  unfold State.grantEngine
  split
  · split
    · obtain ⟨hknown, hone⟩ := State.portOk_iff.1 hs
      rw [hp, PortState.knownTo_free] at hknown
      obtain ⟨-, hhost, -⟩ := hknown
      exact State.portOk_iff.2 ⟨PortState.knownTo_engine.2 ⟨rfl, hhost⟩, hone⟩
    · exact hs
  · exact hs

/-- The grant decision withdraws no request but the one it grants, at a FREE port (R92). -/
theorem State.arbitrate_sound (s : State) : s.Sound s.arbitrate where
  inForce hs := by
    refine hs.of_lists (fun _ hr hw => ⟨by simpa using hr, ?_⟩) (fun _ hl => by simpa using hl) (by simp) (by simp)
    rcases s.arbitrate_phase with hphase | ⟨_, _, hphase, -⟩
    · exact (State.engineWaiting_of_phase hphase).trans hw
    · simp [State.engineWaiting, hphase] at hw
  port hs := by
    unfold State.arbitrate
    split
    · next hp =>
      split
      · exact State.grantHost_portOk hs hp
      · split
        · exact State.grantEngine_portOk hs hp
        · split
          · exact State.grantHost_portOk hs hp
          · exact hs
    · exact hs

/-- What follows an event (R76, R92). -/
theorem State.work_sound (s : State) : s.Sound s.work := s.takeHead_orderly.sound.trans (State.arbitrate_sound _)

/-- A change of the lists, with what follows it. -/
theorem State.Orderly.work (h : s.Orderly t) : s.Sound t.work := h.sound.trans t.work_sound

/-! ### The end of a cycle -/

/-- How the end of a cycle leaves the port: FREE or RECOVERING (R94, R95). -/
def PortState.AfterCycle (p : PortState) : Prop := p = .free ∨ ∃ o, p = .recovering o

/-- Then nothing is in flight. -/
theorem PortState.AfterCycle.knownTo {p : PortState} (h : p.AfterCycle) {phase : EnginePhase} (hf : phase.inFlight = false)
    (hd : phase ≠ .draining) : p.KnownTo phase false := by
  rcases h with rfl | ⟨o, rfl⟩
  · exact PortState.knownTo_free.2 ⟨hf, rfl, hd⟩
  · exact PortState.knownTo_recovering.2 ⟨hf, rfl⟩

/-- The port leaves no mark at the lists, the engine or the sources. -/
theorem State.InForce.setPort (hs : s.InForce) (p : PortState) : (s.setPort p).InForce := hs.of_eq ⟨rfl, rfl, rfl, rfl, rfl⟩

/-- A release write has ended: the engine is idle, or asks again where no inhibit keeps it from that. -/
theorem State.writeEnded_sound {p : PortState} {ph : EnginePhase} {o : Outstanding} (hb : s.arbiter.port = .busy .engine o)
    (hp : p.AfterCycle) (hph : s.FreedTo ph) : s.Sound ((s.setPort p).setPhase ph) where
  inForce hs := by
    refine hs.of_lists (fun hi hr _ => ⟨hr, ?_⟩) (fun _ hl => hl) rfl rfl
    rcases hph with rfl | ⟨hn, -⟩
    · rfl
    · exact absurd (hi.symm.trans hn) (by decide)
  port hs := by
    obtain ⟨hknown, hone⟩ := State.portOk_iff.1 hs
    rw [hb, PortState.knownTo_engine] at hknown
    have hfreed : ph.inFlight = false ∧ ph ≠ .draining := by
      rcases hph with rfl | ⟨-, _, rfl⟩ <;> exact ⟨rfl, nofun⟩
    refine State.portOk_iff.2 ⟨?_, hone⟩
    rw [State.setPhase_upstream, State.setPort_upstream, hknown.2]
    exact hp.knownTo hfreed.1 hfreed.2

/-- The end of the release write is handed to the engine (R78 to R83). -/
theorem State.engineEnd_sound {p : PortState} {o : Outstanding} (hb : s.arbiter.port = .busy .engine o) (hp : p.AfterCycle)
    (e : WriteEnd) : s.Sound ((s.setPort p).engineEnd o e) := by
  cases hphase : s.engine.phase.inFlight with
  | true =>
    obtain ⟨g, stopping, hphase⟩ := EnginePhase.inFlight_iff.1 hphase
    obtain ⟨ph, hph, hend⟩ := State.engineEnd_orderly (s := s.setPort p) hphase o e
    exact (State.writeEnded_sound hb hp hph).trans hend.sound
  | false =>
    have hnothing : (s.setPort p).engineEnd o e = s.setPort p := by
      unfold State.engineEnd
      split
      · next h => exact absurd (EnginePhase.inFlight_iff.2 ⟨_, _, h⟩) (Bool.eq_false_iff.1 hphase)
      · rfl
    rw [hnothing]
    refine ⟨fun hs => hs.setPort p, fun hs => ?_⟩
    have hknown := (State.portOk_iff.1 hs).1
    rw [hb, PortState.knownTo_engine] at hknown
    exact absurd hknown.1 (Bool.eq_false_iff.1 hphase)

/-- The host path's cycle has ended. -/
theorem State.hostEnded_sound {p : PortState} {o : Outstanding} (hb : s.arbiter.port = .busy .host o) (hp : p.AfterCycle)
    (h : t.ready = s.ready ∧ t.heldList = s.heldList ∧ t.engine.phase = s.engine.phase ∧ t.arbiter.port = p ∧
      t.upstream.host = none ∧ t.inhibit.sources = s.inhibit.sources ∧ t.pins = s.pins) : s.Sound t := by
  obtain ⟨hready, hlist, hphase, hport, hhost, hsources, hpins⟩ := h
  refine ⟨fun hs => hs.of_eq ⟨hready, hlist, hphase, hsources, hpins⟩, fun hs => State.portOk_iff.2 ⟨?_, .inr hhost⟩⟩
  have hknown := (State.portOk_iff.1 hs).1
  rw [hb, PortState.knownTo_host] at hknown
  obtain ⟨hflight, -, hdraining⟩ := hknown
  rw [hport, hphase, Upstream.inFlight_none hhost]
  exact hp.knownTo hflight hdraining

/-- Neither end of a host cycle leaves it at the host path (R13, R16, R39). -/
theorem State.hostDone_host (s : State) (data : WordData) : (s.hostDone data).upstream.host = none := by
  unfold State.hostDone
  split
  · rfl
  · assumption

theorem State.hostFailed_host (s : State) (reason : RefusalReason) : (s.hostFailed reason).upstream.host = none := by
  unfold State.hostFailed
  split
  · rfl
  · assumption

/-- Memory's response to the cycle in flight (R94). -/
theorem State.handResponse_sound {source : PortSource} {o : Outstanding} (hb : s.arbiter.port = .busy source o) (r : MemResponse) :
    s.Sound ((s.setPort .free).handResponse source o r) := by
  cases source with
  | engine =>
    cases r with
    | done => exact State.engineEnd_sound hb (.inl rfl) .ok
    | error => exact State.engineEnd_sound hb (.inl rfl) .fault
  | host =>
    cases r with
    | done data =>
      exact State.hostEnded_sound (t := (s.setPort .free).hostDone data) hb (p := .free) (.inl rfl) (by simp [State.hostDone_host])
    | error =>
      exact State.hostEnded_sound (t := (s.setPort .free).hostFailed .downstreamError) hb (p := .free) (.inl rfl)
        (by simp [State.hostFailed_host])

/-- Its timeout (R94, R95). -/
theorem State.handTimeout_sound {source : PortSource} {o : Outstanding} (hb : s.arbiter.port = .busy source o) :
    s.Sound ((s.setPort (.recovering o.recover)).handTimeout source o) := by
  cases source with
  | engine => exact State.engineEnd_sound hb (.inr ⟨_, rfl⟩) .fault
  | host =>
    exact State.hostEnded_sound (t := (s.setPort (.recovering o.recover)).hostFailed .downstreamTimeout) hb
      (p := .recovering o.recover) (.inr ⟨_, rfl⟩) (by simp [State.hostFailed_host])

/-! ### A closed port -/

/-- A closed port has no cycle in flight. -/
theorem PortState.KnownTo.nothing_inFlight {p : PortState} {phase : EnginePhase} {b : Bool} (h : p.KnownTo phase b)
    (hc : p.closed = true) : phase.inFlight = false ∧ b = false := by
  cases p with
  | free | busy => simp [PortState.closed] at hc
  | recovering => exact PortState.knownTo_recovering.1 h
  | draining =>
    obtain ⟨rfl, hb⟩ := PortState.knownTo_draining.1 h
    exact ⟨rfl, hb⟩

/-- A DRAINING engine goes to IDLE, and no other engine changes (R99). -/
theorem State.endDrain_draining (h : s.engine.phase = .draining) : s.endDrain = s.setPhase .idle := by
  simp only [State.endDrain, h]

theorem State.endDrain_other (h : s.engine.phase ≠ .draining) : s.endDrain = s := by
  unfold State.endDrain
  split
  · next hd => exact absurd hd h
  · rfl

/-- A closed port opens (R95, R99). -/
theorem State.endDrain_sound (hc : s.arbiter.port.closed = true) : s.Sound (s.setPort .free).endDrain := by
  by_cases hd : s.engine.phase = .draining
  · rw [State.endDrain_draining (s := s.setPort .free) hd]
    refine ⟨fun hs => hs.of_lists (fun _ hr _ => ⟨hr, rfl⟩) (fun _ hl => hl) rfl rfl, fun hs => ?_⟩
    obtain ⟨hknown, hone⟩ := State.portOk_iff.1 hs
    exact State.portOk_iff.2 ⟨PortState.knownTo_free.2 ⟨rfl, (hknown.nothing_inFlight hc).2, by simp⟩, hone⟩
  · rw [State.endDrain_other (s := s.setPort .free) hd]
    refine ⟨fun hs => hs.setPort .free, fun hs => ?_⟩
    obtain ⟨hknown, hone⟩ := State.portOk_iff.1 hs
    obtain ⟨hflight, hhost⟩ := hknown.nothing_inFlight hc
    exact State.portOk_iff.2 ⟨PortState.knownTo_free.2 ⟨hflight, hhost, hd⟩, hone⟩

/-- The timeout of an abandoned cycle (R99). -/
theorem State.drainTimeout_sound {o : Outstanding} (hp : s.arbiter.port = .draining o) (o' : Outstanding) :
    s.Sound (s.setPort (.recovering o')) where
  inForce hs := hs.setPort _
  port hs := by
    obtain ⟨hknown, hone⟩ := State.portOk_iff.1 hs
    rw [hp, PortState.knownTo_draining] at hknown
    exact State.portOk_iff.2 ⟨PortState.knownTo_recovering.2 ⟨by rw [State.setPort_engine, hknown.1]; rfl, hknown.2⟩, hone⟩

/-! ### The commands at the downstream port -/

theorem State.takeResponse_sound (s : State) (r : MemResponse) : s.Sound (s.takeResponse r) := by
  unfold State.takeResponse
  split
  · exact .refl s
  · exact .refl s
  · next hp => exact (State.endDrain_sound (by rw [hp]; rfl)).trans (State.work_sound _)
  · next hp => exact (State.handResponse_sound hp r).trans (State.work_sound _)

theorem State.takeTimeout_sound (s : State) : s.Sound s.takeTimeout := by
  unfold State.takeTimeout
  split
  · next hp =>
    split
    · exact (State.handTimeout_sound hp).trans (State.work_sound _)
    · exact .refl s
  · next hp =>
    split
    · exact State.drainTimeout_sound hp _
    · exact .refl s
  all_goals exact .refl s

theorem State.takeRecovery_sound (s : State) : s.Sound s.takeRecovery := by
  unfold State.takeRecovery
  split
  · next hp =>
    split
    · exact (State.endDrain_sound (by rw [hp]; rfl)).trans (State.work_sound _)
    · exact .refl s
  all_goals exact .refl s

/-- A tick counts at the port and leaves its state (R127). -/
theorem PortState.KnownTo.tick {p : PortState} {phase : EnginePhase} {b : Bool} (h : p.KnownTo phase b) : p.tick.KnownTo phase b := by
  cases p with
  | free => exact h
  | recovering => exact PortState.knownTo_recovering.2 (PortState.knownTo_recovering.1 h)
  | draining => exact PortState.knownTo_draining.2 (PortState.knownTo_draining.1 h)
  | busy source =>
    cases source with
    | engine => exact PortState.knownTo_engine.2 (PortState.knownTo_engine.1 h)
    | host => exact PortState.knownTo_host.2 (PortState.knownTo_host.1 h)

theorem State.countTick_sound (s : State) : s.Sound s.countTick where
  inForce hs := hs.of_eq ⟨rfl, rfl, rfl, rfl, rfl⟩
  port hs := by
    obtain ⟨hknown, hone⟩ := State.portOk_iff.1 hs
    exact State.portOk_iff.2 ⟨hknown.tick, hone⟩

/-! ### Upstream cycles -/

/-- No cycle is unanswered where the next one can come. -/
theorem State.upstreamBusy_false (h : s.upstreamBusy = false) : s.queue.held = none ∧ s.upstream.host = none := by
  simpa [State.upstreamBusy] using h

/-- The host path's request where no cycle is unanswered (R91). -/
theorem State.requestHost_sound (hb : s.upstreamBusy = false) (c : UCycle) (w : Option WindowId) (r : Route) :
    s.Sound (s.requestHost c w r) := by
  unfold State.requestHost
  refine .trans (t := { s with upstream := { s.upstream with host := some ⟨c, w, r, .waiting⟩ } })
    ⟨fun hs => hs.of_eq ⟨rfl, rfl, rfl, rfl, rfl⟩, fun hs => ?_⟩ (State.arbitrate_sound _)
  obtain ⟨hheld, hnone⟩ := State.upstreamBusy_false hb
  have hknown := (State.portOk_iff.1 hs).1
  rw [Upstream.inFlight_none hnone] at hknown
  exact State.portOk_iff.2 ⟨hknown, .inl hheld⟩

/-- A write that is staged or held where no cycle is unanswered (R26). -/
theorem State.stageWrite_sound (hb : s.upstreamBusy = false) (w : StagedWrite) : s.Sound (s.stageWrite w) where
  inForce hs := hs.of_eq (by simp)
  port hs := by
    have hnone : (s.stageWrite w).upstream.host = none := by simpa using (State.upstreamBusy_false hb).2
    have hknown := (State.portOk_iff.1 hs).1
    rw [Upstream.inFlight_none (State.upstreamBusy_false hb).2] at hknown
    refine State.portOk_iff.2 ⟨?_, .inr hnone⟩
    rw [Upstream.inFlight_none hnone]
    simpa using hknown

/-- A cycle that is answered at once (R2, R13). -/
theorem State.answer_sound (s : State) (r : UResponse) : s.Sound (s.answer r) := .of_eq ⟨rfl, rfl, rfl, rfl, rfl, id, rfl, rfl⟩

/-- A decoded cycle is handed to its path (R1). -/
theorem State.routeCycle_sound (hb : s.upstreamBusy = false) (c : UCycle) (d : Decision) : s.Sound (s.routeCycle c d) := by
  cases d with
  | refused reason w => exact .of_eq (t := s.refuse c.refused reason w) (by simp)
  | passThrough w =>
    simp only [State.routeCycle]
    split
    · exact s.answer_sound _
    · exact State.requestHost_sound hb c w _
  | staged w =>
    simp only [State.routeCycle]
    split
    · exact s.answer_sound _
    · exact State.stageWrite_sound hb w
  | forwarding i g =>
    simp only [State.routeCycle]
    split
    · exact s.answer_sound _
    · unfold State.forwardRead
      dsimp only
      split
      · exact s.answer_sound _
      · exact State.requestHost_sound hb c _ _

/-! ### A change of the inhibit sources -/

/-- Inhibit that becomes set withdraws no write in flight (R84). -/
theorem State.inhibitEngine_phase (s : State) :
    s.inhibitEngine.engine.phase.inFlight = s.engine.phase.inFlight ∧
      (s.inhibitEngine.engine.phase = .draining ↔ s.engine.phase = .draining) := by
  unfold State.inhibitEngine
  split
  · next hphase =>
    rw [hphase]
    exact ⟨rfl, by simp⟩
  · exact ⟨rfl, Iff.rfl⟩

theorem State.inhibitSet_engine (s : State) : s.inhibitSet.engine = s.inhibitEngine.engine := by simp [State.inhibitSet]

/-- A change of the sources at the port, which carries on (R84, R137 to R139). -/
theorem State.changeSources_portOk (hs : s.portOk) (i : InhibitSet) : (s.changeSources i).portOk := by
  have hset : (s.setSources i).portOk := hs
  have hraised : ((s.setSources i).raise .inhibitChange).portOk := hs
  unfold State.changeSources
  dsimp only
  split
  · exact hset
  · split
    · obtain ⟨hflight, hdrain⟩ := ((s.setSources i).raise .inhibitChange).inhibitEngine_phase
      rw [← State.inhibitSet_engine] at hflight hdrain
      exact hraised.of_kept hflight hdrain (by simp) (by simp) (by simp)
    · exact (State.work_sound _).port (hraised.of_kept (by simp) (by simp) (by simp) (by simp) (by simp))

/-- And at the lists and the engine, where inhibit was in force up to the level of the pin (R84, R135, R137 to R139). -/
theorem State.changeSources_inForce (hr : s.pins.rst = false) (hw : s.inhibited = true → s.ready = [] ∧ s.engineWaiting = false)
    (hl : s.inhibited = false → s.heldList = []) {i : InhibitSet} (hp : i.pin = s.pins.inhHigh) : (s.changeSources i).InForce := by
  cases hb : s.inhibited <;> cases ha : i.any
  case false.false | true.true =>
    rw [s.changeSources_same i (hb.trans ha.symm)]
    have hsame : (s.setSources i).inhibited = s.inhibited := ha.trans hb.symm
    exact ⟨hr, fun hi => hw (hsame.symm.trans hi), fun hi => hl (hsame.symm.trans hi), hp⟩
  case false.true =>
    rw [s.changeSources_set i hb ha]
    have hset : ((s.setSources i).raise .inhibitChange).inhibitSet.inhibited = i.any :=
      State.inhibited_of_sources (s := s.setSources i) (by simp)
    refine ⟨by simpa using hr, fun _ => ⟨rfl, ?_⟩, fun hi => ?_, by simpa using hp⟩
    · exact (State.engineWaiting_of_phase (by rw [State.inhibitSet_engine])).trans (State.inhibitEngine_waiting _)
    · exact absurd (hi.symm.trans (hset.trans ha)) (by decide)
  case true.false =>
    rw [s.changeSources_clear i hb ha]
    refine (State.work_sound _).inForce ⟨by simpa using hr, fun hi => ?_, fun _ => rfl, by simpa using hp⟩
    have hclear : i.any = true := by simpa [State.inhibited] using hi
    exact absurd (hclear.symm.trans ha) (by decide)

/-- A change of the sources that leaves PIN (R84, R134, R137 to R139). -/
theorem State.changeSources_sound (s : State) {i : InhibitSet} (hp : i.pin = s.inhibit.sources.pin) : s.Sound (s.changeSources i) where
  inForce hs := State.changeSources_inForce hs.released hs.withheld hs.letGo (hp.trans hs.pin)
  port hs := State.changeSources_portOk hs i

/-- A change of PIN with the pin (R135). -/
theorem State.inhChange_sound (s : State) (high : Bool) :
    s.Sound ((s.setInhPin high).changeSources { s.inhibit.sources with pin := high }) where
  inForce hs := State.changeSources_inForce (s := s.setInhPin high) hs.released hs.withheld hs.letGo rfl
  port hs := State.changeSources_portOk (s := s.setInhPin high) hs _

/-! ### Triggers, STOP, RESUME, PURGE and the reset commands -/

theorem State.offerTrigger_sound (s : State) (t : Trigger) : s.Sound (s.offerTrigger t) :=
  (State.Orderly.foldl (f := State.settleTrigger t) (fun u g => u.settleTrigger_orderly t g) groupIds s).work

theorem State.stop_sound (s : State) (choice : ChannelChoice) (p : Profile) : s.Sound (s.stop choice p) := by
  have hdisarmed : s.Orderly { s.raise .stopReceived with groups := s.groups.map (Group.disarmBy choice p) } :=
    .of_eq ⟨rfl, rfl, rfl, rfl, rfl, id, rfl, rfl⟩
  exact (hdisarmed.trans (State.Orderly.foldl (State.stopReached_orderly choice p) groupIds _)).work

theorem State.resumeSkip_sound (s : State) (g : GroupId) : s.Sound (s.resumeSkip g) := by
  have hpassed := s.passEntry_orderly g
  unfold State.resumeSkip
  dsimp only
  split
  · exact (hpassed.trans (State.endRepetition_orderly _ g)).work
  · exact (hpassed.trans (State.toReady_orderly _ g)).work

theorem State.purgeEntries_sound (s : State) (g : GroupId) : s.Sound (s.purgeEntries g) := by
  unfold State.purgeEntries
  split
  · have hremoved : s.Orderly (s.withoutEntries fun e => e.group == g) := .of_eq ⟨rfl, rfl, rfl, rfl, rfl, id, rfl, rfl⟩
    exact (hremoved.trans (State.endBatch_orderly _ g _)).work
  · exact (s.removeEntries_orderly _).sound

/-- A reset command leaves the engine asking for nothing, and DRAINING exactly at a closed port (R98). -/
theorem PortState.drain_cases (p : PortState) :
    p = .free ∧ p.drain = .free ∧ p.enginePhase = .idle ∨
      p.drain.closed = true ∧ p.drain.ofEngine = false ∧ p.drain.ofHost = false ∧ p.enginePhase = .draining := by
  cases p <;> simp [PortState.drain, PortState.enginePhase, PortState.closed, PortState.ofEngine, PortState.ofHost]

theorem State.portOk_of_drained {p : PortState} (he : t.engine.phase = p.enginePhase) (hp : t.arbiter.port = p.drain)
    (hh : t.upstream.host = none) : t.portOk := by
  have hnone : t.upstream.inFlight = false := by rw [Upstream.inFlight, hh]
  rcases p.drain_cases with ⟨-, hfree, hidle⟩ | ⟨hclosed, hengine, hhost, hdraining⟩
  · rw [hfree] at hp
    rw [hidle] at he
    exact ⟨by rw [he, hp]; rfl, by rw [hnone, hp]; rfl, by simp [he], by simp [hp], .inr hh⟩
  · rw [hdraining] at he
    rw [← hp] at hclosed hengine hhost
    exact ⟨by rw [he, hengine]; rfl, hnone.trans hhost.symm, fun _ => hclosed, fun _ _ => he, .inr hh⟩

theorem State.engineWaiting_of_drained {p : PortState} (he : t.engine.phase = p.enginePhase) : t.engineWaiting = false := by
  rw [State.engineWaiting, he]
  cases p <;> rfl

theorem State.resetDatapath_sound (s : State) : s.Sound s.resetDatapath where
  inForce hs := hs.of_lists (fun _ _ _ => ⟨rfl, State.engineWaiting_of_drained (p := s.arbiter.port) (by simp [State.resetDatapath])⟩)
    (fun _ _ => rfl) (by simp) (by simp)
  port _ := State.portOk_of_drained (p := s.arbiter.port) (by simp [State.resetDatapath]) (by simp [State.resetDatapath])
    s.retryUpstream_host

theorem State.resetAll_sound (s : State) : s.Sound s.resetAll where
  inForce hs := by
    refine ⟨?_, fun _ => ⟨rfl, State.engineWaiting_of_drained (p := s.arbiter.port) (by simp [State.resetAll])⟩, fun _ => rfl, ?_⟩
    · simpa [State.resetAll] using hs.released
    · simpa [State.resetAll, Inhibit.reset] using hs.pin
  port _ := State.portOk_of_drained (p := s.arbiter.port) (by simp [State.resetAll]) (by simp [State.resetAll]) s.retryUpstream_host

end Sys2Proof.Machine
end

section
/-! PROOFS. Every command and every step keeps the port to one cycle and inhibit in force; under RST no command but those of the pins and
of select changes the part (R75, R84, R90, R91, R98, R135 to R139, R172). -/

namespace Sys2Proof.Machine

variable {s t u : State} {g : GroupId}

/-! ### Expiries and the timing line -/

/-- A group whose timer has expired goes on (R57, R64). -/
theorem State.sentOn_sound (s : State) (g : GroupId) : s.Sound ((s.updGroup g Group.stopTimer).toReady g).work := by
  have hstopped : s.Orderly (s.updGroup g Group.stopTimer) := .of_eq ⟨rfl, rfl, rfl, rfl, rfl, id, rfl, rfl⟩
  exact (hstopped.trans (State.toReady_orderly _ g)).work

theorem State.takeDelay_sound (s : State) (g : GroupId) : s.Sound (s.takeDelay g) := by
  unfold State.takeDelay
  split
  · exact s.sentOn_sound g
  · exact .refl s

theorem State.takeInterval_sound (s : State) (g : GroupId) : s.Sound (s.takeInterval g) := by
  unfold State.takeInterval
  split
  · exact s.sentOn_sound g
  · exact .refl s

theorem State.takeLate_sound (s : State) (g : GroupId) : s.Sound (s.takeLate g) := .of_eq (by simp)

/-- A hold that ends leaves no write held (R33). -/
theorem State.takeHoldExpiry_sound (s : State) : s.Sound s.takeHoldExpiry := by
  refine .of_eq ⟨by simp, by simp, by simp, by simp, by simp, fun h => ?_, by simp, by simp⟩
  simp [State.takeHoldExpiry, h]

theorem State.takeCarrierLoss_sound (s : State) : s.Sound s.takeCarrierLoss := by
  have hdown : ∀ v : State, v.Sound v.inhibitLinkDown := fun v => by
    unfold State.inhibitLinkDown
    split
    · exact v.changeSources_sound rfl
    · exact .refl v
  unfold State.takeCarrierLoss
  split
  · unfold State.enterDown
    dsimp only
    split
    · exact .trans (.of_eq (by simp)) (hdown ((s.updLink Link.lose).raise .linkState).timeLinkLost)
    · exact .trans (.of_eq (by simp)) (hdown ((s.updLink Link.lose).raise .linkState))
  · exact .refl s

/-- The expiries that a tick takes first (R127). -/
theorem State.takeDueExpiries_sound (s : State) : s.Sound s.takeDueExpiries := by
  have hport := (s.takeTimeout_sound.trans (State.takeRecovery_sound _)).trans (State.takeHoldExpiry_sound _)
  have hgroups : ∀ v : State, v.Sound (groupIds.foldl State.takeGroupExpiry v) := fun v =>
    List.foldlRecOn groupIds State.takeGroupExpiry (.refl v) fun w hw g _ =>
      ((hw.trans (w.takeDelay_sound g)).trans (State.takeInterval_sound _ g)).trans (State.takeLate_sound _ g)
  exact (hport.trans (hgroups _)).trans (State.takeCarrierLoss_sound _)

/-! ### Frames -/

theorem State.dispatch_sound (s : State) (source : Origin) (a : FrameAction) : s.Sound (s.dispatch source a) := by
  cases a with
  | trigger c p => exact s.offerTrigger_sound _
  | event code p => exact .trans (.of_eq (by simp)) (State.offerTrigger_sound (s.postEvent ⟨code, p, source, s.now⟩) _)
  | inhibit | uninhibit => exact s.changeSources_sound rfl
  | setup choice p => exact .of_eq (t := s.setup choice p) (by simp)
  | stop choice p => exact s.stop_sound choice p
  | epoch => exact .of_eq (t := s.takeEpoch source) (by simp)

theorem State.frameGood_sound (s : State) (f : FrameFields) : s.Sound (s.frameGood f) := by
  have htested : s.Sound ((s.updLink (Link.record true)).sequenceTest f.sequence) := .of_eq (by simp)
  unfold State.frameGood
  dsimp only
  split
  · unfold State.formatAndDispatch
    split
    · exact htested.trans (State.dispatch_sound _ _ _)
    · exact htested.trans (.of_eq (by simp))
  · exact htested

theorem State.frameAcquiring_sound (s : State) (good : Bool) : s.Sound (s.frameAcquiring good) := by
  unfold State.frameAcquiring
  dsimp only
  split
  · split
    · unfold State.enterUp State.inhibitLinkUp
      exact .trans (.of_eq (by simp)) (State.changeSources_sound _ rfl)
    · exact .of_eq (by simp)
  · exact .of_eq (by simp)

theorem State.receiveFrame_sound (s : State) (f : LinkFrame) : s.Sound (s.receiveFrame f) := by
  have htaken : s.Sound (s.updLink fun l => { l with inFrame := false }) := .of_eq (by simp)
  have hbad : ∀ v : State, v.Sound v.frameBad := fun v => .of_eq (by simp)
  unfold State.receiveFrame
  split
  · refine htaken.trans ?_
    unfold State.settleFrame
    split
    · exact .refl _
    · exact State.frameAcquiring_sound _ _
    · split
      · split
        · exact State.frameGood_sound _ _
        · exact hbad _
      · exact hbad _
  · exact .refl s

/-! ### Group commands and messages -/

/-- An accepted SET_GROUP (R68). -/
theorem State.configureGroup_sound (s : State) (g : GroupId) (c : GroupConfig) : s.Sound (s.configureGroup g c) := by
  have hwritten : s.Orderly (s.updGroup g (Group.configure c)) := .of_eq ⟨rfl, rfl, rfl, rfl, rfl, id, rfl, rfl⟩
  unfold State.configureGroup
  dsimp only
  split
  · exact (hwritten.trans (State.holdTest_orderly _)).sound
  · exact hwritten.sound

/-- DISABLE_GROUP refuses the held write of its group (R34, R70). -/
theorem State.disable_sound (s : State) (g : GroupId) : s.Sound ((s.updGroup g Group.disable).refuseHeld g) := by
  refine .of_eq ⟨by simp, by simp, by simp, by simp, by simp, fun h => ?_, by simp, by simp⟩
  simp [State.refuseHeld, h]

/-- INHIBIT_ON_LINK_LOSS is written (R134). -/
theorem State.setOnLinkLoss_sound (s : State) (v : Bool) : s.Sound (s.setOnLinkLoss v) := by
  have hset : s.Sound { s with inhibit := { s.inhibit with onLinkLoss := v } } := .of_eq ⟨rfl, rfl, rfl, rfl, rfl, id, rfl, rfl⟩
  unfold State.setOnLinkLoss
  dsimp only
  split
  · exact .trans (by exact hset) (State.changeSources_sound _ rfl)
  · exact hset

/-- A message leaves the management port alone changed, but for what its action does. -/
theorem State.Sound.settle (i : Instr) {act : State → State × Reply} (hact : s.Sound (act s).1) : s.Sound (s.settle i act) := by
  unfold State.settle
  split
  · exact hact.trans (.of_eq ⟨rfl, rfl, rfl, rfl, rfl, id, rfl, rfl⟩)
  all_goals exact .refl s

/-- A command with an argument, where it is so for each value. -/
theorem State.Sound.withArg {α : Type} {arg : Option α} {act : α → State × Reply} (hact : ∀ a, s.Sound (act a).1) :
    s.Sound (s.withArg arg act).1 := by
  cases arg with
  | none => exact .refl s
  | some a => exact hact a

theorem State.localFrame_sound (s : State) (kind profile argument : Byte) : s.Sound (s.localFrame kind profile argument).1 :=
  .withArg fun _ => .withArg fun _ => .withArg fun _ => s.dispatch_sound .host _

/-! ### Commands -/

/-- What an event does. -/
theorem State.Sound.of_next (h : (.next u : Host.Outcome State Fault Refusal) = .next t) (hu : s.Sound u) : s.Sound t := by
  cases h
  exact hu

/-- What an event does that the state of the part lets happen or not. -/
theorem State.Sound.of_ite {v : State} {p : Prop} [Decidable p]
    (h : (if p then .next u else .next v : Host.Outcome State Fault Refusal) = .next t) (hu : p → s.Sound u) (hv : ¬ p → s.Sound v) :
    s.Sound t := by
  split at h
  · next hp => exact .of_next h (hu hp)
  · next hp => exact .of_next h (hv hp)

/-- What a message does. -/
theorem State.Sound.of_settle {i : Instr} {act : State → State × Reply}
    (h : (.next (s.settle i act) : Host.Outcome State Fault Refusal) = .next t) (hact : s.Sound (act s).1) : s.Sound t :=
  .of_next h (.settle i hact)

/-- Every command but a pin reset, which sets both anew, keeps the port to one cycle and inhibit in force. -/
theorem exec_sound {c : Instr} (hc : c ≠ .rstAsserted) (h : exec c s = .next t) : s.Sound t := by
  cases c
  case rstAsserted => exact absurd rfl hc
  -- The bus path and the downstream port.
  case upstreamCycle addr kind cls lanes data =>
    change execUpstreamCycle addr kind cls lanes data s = _ at h
    unfold execUpstreamCycle at h
    split at h
    · exact .of_next h (.refl s)
    · split at h
      · cases h
      · next hb =>
        have hbegun : s.Sound s.beginCycle := .of_eq ⟨rfl, rfl, rfl, rfl, rfl, id, rfl, rfl⟩
        exact .of_next h (hbegun.trans (State.routeCycle_sound (s := s.beginCycle) (Bool.eq_false_iff.2 hb) _ _))
  case downstreamResponse r => exact .of_next h (s.takeResponse_sound r)
  case downstreamTimeout => exact .of_next h s.takeTimeout_sound
  case recoveryExpiry => exact .of_next h s.takeRecovery_sound
  -- Timers, the tick and the timing line.
  case holdExpiry => exact .of_next h s.takeHoldExpiry_sound
  case delayExpiry g => exact .of_next h (s.takeDelay_sound g)
  case intervalExpiry g => exact .of_next h (s.takeInterval_sound g)
  case late g => exact .of_next h (s.takeLate_sound g)
  case tick => exact .of_ite h (fun _ => .refl s) fun _ => s.takeDueExpiries_sound.trans (State.countTick_sound _)
  case carrierPresent | lineTransition => exact .of_next h (.of_eq (by simp))
  case carrierLoss => exact .of_next h s.takeCarrierLoss_sound
  case frameReceived f => exact .of_next h (s.receiveFrame_sound f)
  case startMarker =>
    exact .of_ite h (fun _ => (s.receiveFrame_sound .truncated).trans (.of_eq ⟨rfl, rfl, rfl, rfl, rfl, id, rfl, rfl⟩)) fun _ => .refl s
  -- The pins.
  case trigEdge => exact .of_ite h (fun _ => .refl s) fun _ => s.offerTrigger_sound _
  case inhChange high =>
    refine .of_ite h (fun hr => ⟨fun hs => ?_, id⟩) fun _ => s.inhChange_sound high
    exact absurd (hs.released.symm.trans hr) (by decide)
  case rstReleased =>
    refine .of_ite h (fun hr => ⟨fun hs => ?_, id⟩) fun _ => .refl s
    exact absurd (hs.released.symm.trans hr) (by decide)
  -- The management transaction.
  case selectAsserted =>
    change execSelectAsserted s = _ at h
    unfold execSelectAsserted at h
    split at h
    · exact .of_next h (.refl s)
    · split at h <;> exact .of_next h (.of_eq ⟨rfl, rfl, rfl, rfl, rfl, id, rfl, rfl⟩)
  case selectReleased =>
    have hended : s.Sound s.endTransaction := .of_eq ⟨rfl, rfl, rfl, rfl, rfl, id, rfl, rfl⟩
    exact .of_ite h (fun _ => hended.trans (State.resetAll_sound _)) fun _ => hended
  case responseSent =>
    change execResponseSent s = _ at h
    unfold execResponseSent at h
    split at h
    · exact .of_next h (.of_eq (by simp))
    all_goals exact .of_next h (.refl s)
  -- The messages with no argument.
  case checkError | badCommand | getPath | getTiming | getEpoch | getLink | getStatus => exact .of_settle h (.refl s)
  case setMask | clearCauses | clearRefusal | resetAll => exact .of_settle h (.of_eq ⟨rfl, rfl, rfl, rfl, rfl, id, rfl, rfl⟩)
  case resetDatapath => exact .of_settle h s.resetDatapath_sound
  case takeCompletion | takeEvent | getRefusal =>
    refine .of_settle h ?_
    split <;> exact .of_eq ⟨rfl, rfl, rfl, rfl, rfl, id, rfl, rfl⟩
  case arm groupSet =>
    have harmed : s.Orderly (groupIds.foldl (State.armNamed groupSet) s) := .foldl (fun _ _ => .of_eq (by simp)) groupIds s
    exact .of_settle h harmed.sound
  -- The messages whose arguments are tested first.
  case getWindow | getGroup => exact .of_settle h (.withArg fun _ => .refl s)
  case clearMissed => exact .of_settle h (.withArg fun _ => .of_eq ⟨rfl, rfl, rfl, rfl, rfl, id, rfl, rfl⟩)
  case setHostInhibit => exact .of_settle h (.withArg fun _ => s.changeSources_sound rfl)
  case setWindow =>
    refine .of_settle h (.withArg fun _ => .withArg fun _ => ?_)
    split <;> exact .of_eq ⟨rfl, rfl, rfl, rfl, rfl, id, rfl, rfl⟩
  case setWindowEnable =>
    exact .of_settle h (.withArg fun _ => .withArg fun _ => .of_eq ⟨rfl, rfl, rfl, rfl, rfl, id, rfl, rfl⟩)
  case setGroup =>
    refine .of_settle h (.withArg fun g => .withArg fun c => ?_)
    split
    · exact .refl s
    · split
      · exact .refl s
      · exact s.configureGroup_sound g c
  case enableGroup =>
    refine .of_settle h (.withArg fun g => ?_)
    split <;> exact .of_eq ⟨rfl, rfl, rfl, rfl, rfl, id, rfl, rfl⟩
  case disableGroup =>
    refine .of_settle h (.withArg fun g => ?_)
    split
    · exact s.disable_sound g
    · exact .refl s
  case resumeRetry =>
    refine .of_settle h (.withArg fun g => ?_)
    split
    · split
      · exact (s.toReady_orderly g).work
      · exact .refl s
    · exact .refl s
  case resumeSkip =>
    refine .of_settle h (.withArg fun g => ?_)
    split
    · exact s.resumeSkip_sound g
    · exact .refl s
  case setPath =>
    refine .of_settle h (.withArg fun _ => ?_)
    split <;> exact .of_eq ⟨rfl, rfl, rfl, rfl, rfl, id, rfl, rfl⟩
  case purgeCollecting =>
    refine .of_settle h (.withArg fun g => ?_)
    split
    · exact (s.removeEntries_orderly _).sound
    · exact .refl s
  case purgeAll =>
    refine .of_settle h (.withArg fun g => ?_)
    unfold State.purgeAll
    split
    · exact s.purgeEntries_sound g
    · exact .refl s
  case readEntry =>
    refine .of_settle h (.withArg fun _ => ?_)
    split
    · split <;> exact .refl s
    · exact .refl s
  case setTiming =>
    exact .of_settle h (.withArg fun src => .withArg fun c => .withArg fun p => .withArg fun v =>
      .trans (.of_eq (by simp)) (((s.setTickSource src).setLocal c p).setOnLinkLoss_sound v))
  case localFrameTrigger | localFrameEvent | localFrameSetup | localFrameStop | localFrameEpoch =>
    exact .of_settle h (s.localFrame_sound _ _ _)

/-! ### Reset -/

/-- A pin reset leaves no cycle on the port (R100, R172). -/
theorem State.pinReset_portOk (s : State) : s.pinReset.portOk :=
  State.portOk_iff.2 ⟨PortState.knownTo_free.2 ⟨rfl, rfl, nofun⟩, .inl rfl⟩

/-- And no group in a list and no source but what the release of RST samples (R141, R172; log entry 20). -/
theorem State.pinReset_inhibitOk (s : State) : s.pinReset.inhibitOk :=
  ⟨fun _ => rfl, fun _ => ⟨rfl, rfl⟩, fun _ => rfl, nofun⟩

/-- What a command makes of a part that a pin reset has left, RST being asserted: it follows the levels of its pins alone (R172, log
entry 6). -/
def State.underReset (s : State) : Instr → State
  | .inhChange high => s.pinReset.setInhPin high
  | .rstReleased stn dpol => s.pinReset.releaseReset stn dpol
  | .selectAsserted => { s.pinReset with mgmt := Mgmt.idleAt true }
  | .selectReleased => { s.pinReset with mgmt := Mgmt.idleAt false }
  | _ => s.pinReset

/-- No group's timer is due in it. -/
theorem State.pinReset_timer (s : State) (g : GroupId) : s.pinReset.groups[g].timer ≠ .due := by
  rw [s.pinReset_group]
  decide

theorem exec_underReset (c : Instr) (s : State) : exec c s.pinReset = .next (s.underReset c) := by
  cases c
  case delayExpiry g => exact congrArg Host.Outcome.next (if_neg fun h => s.pinReset_timer g h.1)
  case intervalExpiry g => exact congrArg Host.Outcome.next (if_neg fun h => s.pinReset_timer g h.1)
  case late g => exact congrArg Host.Outcome.next (if_neg fun h => s.pinReset_timer g h.1)
  case selectAsserted =>
    show execSelectAsserted s.pinReset = _
    unfold execSelectAsserted
    cases hs : s.mgmt.select <;> simp [State.underReset, State.pinReset, hs, Mgmt.idleAt]
  -- Nothing is in progress that an event could be of, and the management port is in IDLE.
  all_goals rfl

theorem State.underReset_inhibitOk (s : State) (c : Instr) : (s.underReset c).inhibitOk := by
  unfold State.underReset
  split
  case h_2 => exact ⟨nofun, fun _ => ⟨rfl, rfl⟩, fun _ => rfl, fun _ => rfl⟩
  case h_1 | h_3 | h_4 => exact ⟨fun _ => rfl, fun _ => ⟨rfl, rfl⟩, fun _ => rfl, nofun⟩
  case h_5 => exact s.pinReset_inhibitOk

/-! ### Steps -/

/-- A step is a change of what waits, with one of the management port in a transaction, or a command. -/
theorem step_cases (h : step s = .next t) :
    (∃ m q k, t = { s with mgmt := m, pending := q, clocks := k } ∧ (s.mgmt.phase = .idle → m = s.mgmt)) ∨
      ∃ i q k, exec i { s with pending := q, clocks := k } = .next t := by
  unfold step at h
  split at h
  · unfold State.takeClock at h
    split at h
    · cases h
      exact .inl ⟨s.mgmt, s.pending, s.clocks, rfl, fun _ => rfl⟩
    · next bit rest _ =>
      rcases State.clockPeriod_cases { s with clocks := rest } bit with ⟨-, hn⟩ | ⟨-, hp, ⟨_, _, _, hn⟩ | ⟨i, hi⟩⟩
      · cases hn.symm.trans h
        exact .inl ⟨s.mgmt, s.pending, rest, rfl, fun _ => rfl⟩
      · cases hn.symm.trans h
        exact .inl ⟨_, _, _, rfl, fun hidle => absurd hidle hp⟩
      · exact .inr ⟨i, s.pending, rest, hi.symm.trans h⟩
  · next c rest _ => exact .inr ⟨c, rest, s.clocks, h⟩

/-- Settles O16: a pin reset leaves a FREE port, and every other command keeps the port right. -/
theorem stepsKeepOneDownstreamCycle : Obligations.StepsKeepOneDownstreamCycle := by
  intro s t hs h
  rcases step_cases h with ⟨m, q, k, rfl, -⟩ | ⟨i, q, k, hi⟩
  · exact hs
  · by_cases hr : i = .rstAsserted
    · subst hr
      cases hi
      exact State.pinReset_portOk _
    · exact (exec_sound hr hi).port hs

/-- Out of reset inhibit in force is what the statement asks for. -/
theorem State.InForce.inhibitOk (hs : s.InForce) : s.inhibitOk :=
  ⟨fun hr => absurd (hs.released.symm.trans hr) (by decide), hs.withheld, hs.letGo, fun _ => hs.pin⟩

/-- What waits is no part of inhibit, nor of what a pin reset sets. -/
theorem State.inhibitOk_waiting (hs : s.inhibitOk) (q : List Instr) (k : List Bool) :
    State.inhibitOk { s with pending := q, clocks := k } := by
  obtain ⟨hreset, hforce⟩ := hs
  exact ⟨fun hr => congrArg (fun v : State => { v with pending := q, clocks := k }) (hreset hr), hforce⟩

/-- Settles O15: out of reset every command keeps inhibit in force, and under RST the part is as a pin reset left it. -/
theorem stepsKeepInhibitInForce : Obligations.StepsKeepInhibitInForce := by
  intro s t hs h
  cases hr : s.pins.rst with
  | false =>
    obtain ⟨-, hwithheld, hletGo, hpin⟩ := hs
    have hforce : s.InForce := ⟨hr, hwithheld, hletGo, hpin hr⟩
    rcases step_cases h with ⟨m, q, k, rfl, -⟩ | ⟨i, q, k, hi⟩
    · refine State.InForce.inhibitOk (hforce.of_eq ?_)
      exact ⟨rfl, rfl, rfl, rfl, rfl⟩
    · by_cases hi' : i = .rstAsserted
      · subst hi'
        cases hi
        exact State.pinReset_inhibitOk _
      · exact ((exec_sound hi' hi).inForce (hforce.of_eq ⟨rfl, rfl, rfl, rfl, rfl⟩)).inhibitOk
  | true =>
    rcases step_cases h with ⟨m, q, k, rfl, hm⟩ | ⟨i, q, k, hi⟩
    · have hidle : s.mgmt.phase = .idle := by
        rw [← hs.1 hr]
        rfl
      rw [hm hidle]
      exact State.inhibitOk_waiting hs q k
    · rw [← (State.inhibitOk_waiting hs q k).1 hr, exec_underReset] at hi
      cases hi
      exact State.underReset_inhibitOk _ i

end Sys2Proof.Machine
end

section
/-! PROOFS. What the engine does between the entries of a repetition, the ends of a drain and of a recovery, the inhibit sources, and the
events that cannot happen (R78 to R84, R95, R96, R99, R135 to R139). -/

namespace Sys2Proof.Machine

open Sys2Proof.Claims

variable {s : State} {g : GroupId}

/-! ### Between entries -/

/-- Between entries, the repetition unfinished, in the words of the statements (R82, R83). -/
theorem State.betweenEntries_on (s : State) (g : GroupId) (stopping : Bool) (hr : ¬ repetitionOver s g) :
    s.betweenEntries g stopping =
      if stopping = true then batchEnd (engineIdle s) g .stopped
      else if s.inhibited = true then
        { withGroup (engineIdle s) g { s.groups[g] with state := .held } with heldList := s.heldList ++ [g] }
      else { s with engine := { s.engine with phase := .running g false .waiting } } := by
  rw [State.betweenEntries, if_neg (mt (s.repetitionEnded_iff g).1 hr), State.endBatch_eq]
  rfl

/-- The end of a write leaves the inhibit sources. -/
theorem writeOver_passEntry_inhibited (s : State) (g : GroupId) (o : Outstanding) (how : WriteResult) :
    ((writeOver s g o how).passEntry g).inhibited = s.inhibited := by
  have hover : (writeOver s g o how).inhibit = s.inhibit := by cases how <;> rfl
  exact State.inhibited_of_sources (by simp [hover])

/-- Settles O30: the entry is passed, and the engine goes on, pauses or stops. -/
theorem releaseWritesContinueTheRepetition : Obligations.ReleaseWritesContinueTheRepetition := by
  intro s g stopping o how data hw hs hover
  rw [← State.passEntry_eq] at hover ⊢
  rw [exec_ending_passed hw hs, State.betweenEntries_on _ g stopping hover, State.work_eq, writeOver_passEntry_inhibited]

/-! ### Drains, recoveries and responses nobody waits for -/

/-- The port opens, and a DRAINING engine goes to IDLE (R99). -/
theorem State.endDrain_eq (s : State) :
    s.endDrain = { s with engine := { s.engine with phase := if s.engine.phase = .draining then .idle else s.engine.phase } } := by
  by_cases hd : s.engine.phase = .draining
  · rw [State.endDrain_draining hd, if_pos hd]
    rfl
  · rw [State.endDrain_other hd, if_neg hd]

/-- Settles O33: a response or the end of a recovery opens the port, a timeout begins the recovery. -/
theorem drainsAndRecoveriesEnd : Obligations.DrainsAndRecoveriesEnd := by
  intro s o
  refine ⟨fun hp r => ?_, fun hp hdue => ?_, fun hp hdue => ?_⟩
  · show Host.Outcome.next (s.takeResponse r) = _
    simp only [State.takeResponse, hp, State.endDrain_eq, State.work_eq]
    rfl
  · show Host.Outcome.next s.takeTimeout = _
    simp only [State.takeTimeout, hp, hdue, if_true]
    rfl
  · show Host.Outcome.next s.takeRecovery = _
    simp only [State.takeRecovery, hp, hdue, if_true, State.endDrain_eq, State.work_eq]
    rfl

/-- Settles O28: neither a FREE nor a RECOVERING port has a cycle that waits for its response. -/
theorem unawaitedResponsesAreDiscarded : Obligations.UnawaitedResponsesAreDiscarded := by
  intro s r hp
  show Host.Outcome.next (s.takeResponse r) = _
  rcases hp with hp | ⟨o, hp⟩ <;> simp only [State.takeResponse, hp]

/-! ### The inhibit sources -/

/-- Settles O42: both commands are one change of the sources. -/
theorem inhibitSourcesAreFollowed : Obligations.InhibitSourcesAreFollowed := by
  refine ⟨fun s high => ⟨fun hr => ?_, fun hr => ?_⟩, fun s v hc => ⟨fun b hv => ?_, fun hv => ?_⟩⟩
  · show execInhChange high s = _
    rw [execInhChange, if_neg (by simp [hr]), State.changeSources_eq]
    rfl
  · show execInhChange high s = _
    rw [execInhChange, if_pos hr]
    rfl
  · subst hv
    refine answers_of_settle hc rfl ?_
    rw [yesNoArg_yesNo, State.withArg_some, State.changeSources_eq]
    rfl
  · exact answers_of_settle hc rfl (State.withArg_bad (.inl (yesNoArg_bad hv)))

/-! ### Events that cannot happen -/

/-- No downstream timer is due (R94, R99). -/
theorem State.takeTimeout_none (h : ∀ a o, s.arbiter.port = .busy a o ∨ s.arbiter.port = .draining o → o.timer ≠ .due) :
    s.takeTimeout = s := by
  unfold State.takeTimeout
  split
  · next a o hp => exact if_neg (h a o (.inl hp))
  · next o hp => exact if_neg (h .engine o (.inr hp))
  all_goals rfl

/-- No recovery timer is due (R95). -/
theorem State.takeRecovery_none (h : ∀ o, s.arbiter.port = .recovering o → o.timer ≠ .due) : s.takeRecovery = s := by
  unfold State.takeRecovery
  split
  · next o hp => exact if_neg (h o hp)
  all_goals rfl

/-- No hold timer is due (R33). -/
theorem State.takeHoldExpiry_none (h : s.queue.held = none ∨ s.queue.holdTimer ≠ .due) : s.takeHoldExpiry = s := by
  unfold State.takeHoldExpiry
  split
  · next hw => exact if_neg (h.resolve_left (by simp [hw]))
  · rfl

/-- No group timer is due in a state whose expiry this is (R57, R64). -/
theorem State.takeDelay_none (h : s.groups[g].timer ≠ .due ∨ s.groups[g].state ≠ .pending) : s.takeDelay g = s :=
  if_neg (not_and_or.2 h)

theorem State.takeInterval_none (h : s.groups[g].timer ≠ .due ∨ s.groups[g].state ≠ .interval) : s.takeInterval g = s :=
  if_neg (not_and_or.2 h)

/-- A group can be late in four states (R65). -/
theorem GroupState.canBeLate_iff (st : GroupState) : st.canBeLate = true ↔ st ∈ [.ready, .releasing, .held, .faulted] := by
  cases st <;> decide

theorem State.takeLate_none (h : s.groups[g].timer ≠ .due ∨ s.groups[g].underway = false ∨
    s.groups[g].state ∉ [.ready, .releasing, .held, .faulted]) : s.takeLate g = s := by
  refine if_neg fun ⟨hdue, hunderway, hlate⟩ => ?_
  rcases h with h | h | h
  · exact h hdue
  · exact absurd (h.symm.trans hunderway) (by decide)
  · exact h ((GroupState.canBeLate_iff _).1 hlate)

/-- No carrier timer is due (R102). -/
theorem State.takeCarrierLoss_none (h : s.link.carrierTimer ≠ .due) : s.takeCarrierLoss = s := if_neg (by simp [h])

/-- No frame is in progress (R101). -/
theorem State.receiveFrame_none (f : LinkFrame) (h : s.link.inFrame = false) : s.receiveFrame f = s := if_neg (by simp [h])

/-- No response is being sent (R157, R164). -/
theorem execResponseSent_none (h : s.mgmt.phase ≠ .response) : execResponseSent s = .next s := by
  unfold execResponseSent
  split
  · next hp => exact absurd hp h
  all_goals rfl

/-- An upstream cycle is unanswered (R1). -/
theorem State.upstreamBusy_iff (s : State) : s.upstreamBusy = true ↔ s.queue.held ≠ none ∨ s.upstream.host ≠ none := by
  simp [State.upstreamBusy, Option.isSome_iff_ne_none]

/-- Settles O36: each command tests for itself whether its event can happen. -/
theorem eventsThatCannotHappen : Obligations.EventsThatCannotHappen := by
  intro s
  refine ⟨fun h => ?timeout, fun h => ?recovery, fun h => ?hold, fun g => ⟨fun h => ?delay, fun h => ?interval, fun h => ?late⟩,
    fun h => ?carrier, fun f h => ?frame, fun h => ?marker, fun stn dpol h => ?release, fun h => ?select, fun h => ?response,
    fun h => ⟨?trig, ?present, ?transition, fun c => ?cycle⟩, fun hr h c => ?second⟩
  case timeout => exact congrArg Host.Outcome.next (State.takeTimeout_none h)
  case recovery => exact congrArg Host.Outcome.next (State.takeRecovery_none h)
  case hold => exact congrArg Host.Outcome.next (State.takeHoldExpiry_none h)
  case delay => exact congrArg Host.Outcome.next (State.takeDelay_none h)
  case interval => exact congrArg Host.Outcome.next (State.takeInterval_none h)
  case late => exact congrArg Host.Outcome.next (State.takeLate_none h)
  case carrier => exact congrArg Host.Outcome.next (State.takeCarrierLoss_none h)
  case frame => exact congrArg Host.Outcome.next (State.receiveFrame_none f h)
  case marker => exact if_neg (by simp [h])
  case release => exact if_neg (by simp [h])
  case select => exact if_pos h
  case response => exact execResponseSent_none h
  case trig => exact if_pos h
  case present | transition => exact congrArg Host.Outcome.next (if_pos h)
  case cycle => exact if_pos h
  case second =>
    show execUpstreamCycle c.addr c.kind c.cls c.lanes c.data s = _
    rw [execUpstreamCycle, if_neg (by simp [hr]), if_pos (s.upstreamBusy_iff.2 h)]

end Sys2Proof.Machine
end

section
/-! PROOFS. What the operations of the timing line answer, case by case: the signals of the link state to the time base and the inhibit
unit, and what a received frame makes of the receiver (R101, R102, R105 to R112, R125, R134). -/

namespace Sys2Proof.Machine

open Sys2Proof.Claims

/-! ### The signals of the link state -/

/-- With tick source LINK holdover begins as the link leaves UP (R125). -/
theorem State.timeLinkLost_link (s : State) (h : s.time.source = .linkRef) :
    s.timeLinkLost =
      { s with time := { s.time with supplier := .localRef, holdover := true }, report := s.report.with .timebaseHoldover } := by
  simp only [State.timeLinkLost, h]
  rfl

/-- With tick source LOCAL the link is nothing to the time base. -/
theorem State.timeLinkLost_local (s : State) (h : s.time.source ≠ .linkRef) : s.timeLinkLost = s := by
  unfold State.timeLinkLost
  split
  · next hl => exact absurd hl h
  · rfl

/-- Holdover ends as the link enters UP (R125). -/
theorem State.timeLinkUp_eq (s : State) :
    s.timeLinkUp =
      { s with time := if s.time.source = .linkRef then { s.time with supplier := .linkRef, holdover := false } else s.time } := by
  unfold State.timeLinkUp
  cases s.time.source <;> rfl

/-- INHIBIT_ON_LINK_LOSS lets LINKLOSS join the sources at an entry to DOWN (R134). -/
theorem State.inhibitLinkDown_eq (s : State) :
    s.inhibitLinkDown =
      if s.inhibit.onLinkLoss = true then sourcesBecome s { s.inhibit.sources with linkLoss := true } else s := by
  rw [State.inhibitLinkDown, State.changeSources_eq]

/-- The entry to DOWN from UP is one that the time base hears of (R109, R125). -/
theorem State.enterDown_up (s : State) (h : s.link.state = .up) :
    s.enterDown = ((s.updLink Link.lose).raise .linkState).timeLinkLost.inhibitLinkDown := by
  simp only [State.enterDown, if_pos h]

theorem State.enterDown_other (s : State) (h : s.link.state ≠ .up) :
    s.enterDown = ((s.updLink Link.lose).raise .linkState).inhibitLinkDown := by
  simp only [State.enterDown, if_neg h]

/-- The record at an entry to UP: the run of good results is the whole history (R105). -/
def Link.rise (l : Link) : Link :=
  { l with state := .up, acquired := 0, history := [true, true, true, true], expected := none }

theorem State.enterUp_rise (s : State) : s.enterUp = ((s.updLink Link.rise).raise .linkState).timeLinkUp.inhibitLinkUp := rfl

/-- The entry to UP, in the statements' words (R105, R109, R125, R134). -/
theorem State.enterUp_eq (s : State) :
    s.enterUp =
      sourcesBecome
        { s with
          link := s.link.rise
          report := s.report.with .linkState
          time := if s.time.source = .linkRef then { s.time with supplier := .linkRef, holdover := false } else s.time }
        { s.inhibit.sources with linkLoss := false } := by
  rw [State.enterUp_rise, State.inhibitLinkUp, State.changeSources_eq, State.timeLinkUp_eq]
  rfl

/-- The record at a fall from UP back to ACQUIRING (R107). -/
def Link.fall (l : Link) : Link := { l with state := .acquiring, acquired := 0, expected := none }

theorem State.fallBack_fall (s : State) : s.fallBack = ((s.updLink Link.fall).raise .linkState).timeLinkLost := rfl

/-- The fall back to ACQUIRING, in the statements' words (R107, R109, R125). -/
theorem State.fallBack_eq (s : State) :
    s.fallBack =
      let falls := { s with link := s.link.fall, report := s.report.with .linkState }
      if s.time.source = .linkRef then
        { falls with
          time := { s.time with supplier := .localRef, holdover := true }, report := falls.report.with .timebaseHoldover }
      else falls := by
  rw [State.fallBack_fall]
  by_cases hsource : s.time.source = .linkRef
  · simp only [if_pos hsource]
    exact State.timeLinkLost_link _ hsource
  · simp only [if_neg hsource]
    exact State.timeLinkLost_local _ hsource

/-! ### Received frames -/

/-- No frame is in progress any more. -/
def State.frameOver (s : State) : State := s.updLink fun l => { l with inFrame := false }

/-- A frame in progress is over as it is received (R101). -/
theorem State.receiveFrame_inFrame (s : State) (f : LinkFrame) (h : s.link.inFrame = true) :
    s.receiveFrame f = s.frameOver.settleFrame f := if_pos h

theorem State.settleFrame_down (s : State) (f : LinkFrame) (h : s.link.state = .down) : s.settleFrame f = s := by
  simp only [State.settleFrame, h]

theorem State.settleFrame_acquiring (s : State) (f : LinkFrame) (h : s.link.state = .acquiring) :
    s.settleFrame f = s.frameAcquiring f.checkGood := by
  simp only [State.settleFrame, h]

/-- A truncated frame is a bad one (R103). -/
theorem State.settleFrame_bad (s : State) (f : LinkFrame) (h : s.link.state = .up) (hf : f.checkGood = false) :
    s.settleFrame f = s.frameBad := by
  cases f <;> simp [State.settleFrame, h, hf]

theorem State.settleFrame_good (s : State) (b : BitVec 32) (h : s.link.state = .up) (hb : (LinkFrame.whole b).checkGood = true) :
    s.settleFrame (.whole b) = s.frameGood (FrameFields.ofBits b) := by
  simp only [State.settleFrame, h, hb, if_true]

/-- A good frame before the fourth in a row counts (R105). -/
theorem State.frameAcquiring_counts (s : State) (h : s.link.acquired < 3) :
    s.frameAcquiring true = { s with link := { s.link.record true with acquired := s.link.acquired + 1 } } :=
  if_neg (show ¬ 4 ≤ s.link.acquired + 1 by omega)

/-- A bad frame ends the run (R105). -/
theorem State.frameAcquiring_breaks (s : State) :
    s.frameAcquiring false =
      { s with
        link := { s.link.record false with acquired := 0, lastError := some .check }, report := s.report.with .linkError } := by
  simp only [State.frameAcquiring, Bool.false_eq_true, if_false, State.linkFault, State.updLink, State.raise]
  rfl

/-- The fourth takes the link to UP, which keeps nothing of the count and of the results before (R105). -/
theorem State.frameAcquiring_completes (s : State) (h : s.link.acquired = 3) : s.frameAcquiring true = s.enterUp := by
  have hrun : s.frameAcquiring true =
      ((s.updLink (Link.record true)).updLink fun l => { l with acquired := l.acquired + 1 }).enterUp :=
    if_pos (show 4 ≤ s.link.acquired + 1 by omega)
  have hrise : ((s.updLink (Link.record true)).updLink fun l => { l with acquired := l.acquired + 1 }).updLink Link.rise =
      s.updLink Link.rise := rfl
  rw [hrun, State.enterUp_rise, hrise, ← State.enterUp_rise]

/-- A bad frame in UP, before the bad count it leaves is judged (R110). -/
def State.frameFaulted (s : State) : State :=
  { s with link := { s.link.record false with lastError := some .check }, report := s.report.with .linkError }

/-- With three bad results the link falls back (R107). -/
theorem State.frameBad_stays (s : State) (h : (s.link.record false).badCount < 3) : s.frameBad = s.frameFaulted :=
  if_neg (Nat.not_le.2 h)

theorem State.frameBad_falls (s : State) (h : ¬ (s.link.record false).badCount < 3) : s.frameBad = s.frameFaulted.fallBack :=
  if_pos (Nat.not_lt.1 h)

/-- The sequence test (R111). -/
theorem State.sequenceTest_eq (s : State) (q : BitVec 3) :
    s.sequenceTest q =
      { s with
        link := { s.link with expected := some (q + 1) }
        report := if s.link.expected ≠ none ∧ s.link.expected ≠ some q then s.report.with .frameGap else s.report } := by
  unfold State.sequenceTest
  cases he : s.link.expected with
  | none => rfl
  | some e =>
    by_cases hq : e = q
    · simp [hq, State.updLink]
    · simp [hq]
      rfl

/-- The station filter (R112). -/
theorem Link.passesStation_iff (l : Link) (station : Byte) : l.passesStation station = true ↔ station = l.station ∨ station = 255 := by
  simp [Link.passesStation]

/-- A good frame in UP is recorded and its sequence tested, and the station filter lets it go on or not (R110 to R112). -/
theorem State.frameGood_other (s : State) {f : FrameFields} (h : ¬ (f.station = s.link.station ∨ f.station = 255)) :
    s.frameGood f = (s.updLink (Link.record true)).sequenceTest f.sequence := by
  refine if_neg (mt (Link.passesStation_iff _ _).1 ?_)
  simpa using h

theorem State.frameGood_mine (s : State) {f : FrameFields} (h : f.station = s.link.station ∨ f.station = 255) :
    s.frameGood f = ((s.updLink (Link.record true)).sequenceTest f.sequence).formatAndDispatch f := by
  refine if_pos ((Link.passesStation_iff _ _).2 ?_)
  simpa using h

end Sys2Proof.Machine
end

section
/-! PROOFS. The link receiver and the time base in step, through every operation of the timing line and every command (5.3, R101, R102,
R105 to R108, R110, R123, R125, R126). -/

namespace Sys2Proof.Machine

variable {s t u : State}

/-! ### The two blocks -/

/-- What linkOk says of the receiver's own record: the table of 5.3 and the bounds of R105 to R107. -/
structure Link.Right (l : Link) : Prop where
  carrier : l.carrier = true ↔ l.state ≠ .down
  acquired : l.acquired ≤ 3
  history : l.history.length ≤ 8
  expected : l.expected ≠ none → l.state = .up
  quality : l.state = .up → l.badCount < 3

/-- What linkOk says of the time base beside a link state: the table of R123, and holdover (R125). -/
structure TimeBase.Follows (b : TimeBase) (st : LinkState) : Prop where
  supplier : b.supplier = supplierFor b.source st
  holdover : b.holdover = true ↔ b.source = .linkRef ∧ st ≠ .up

theorem State.linkOk_iff : s.linkOk ↔ s.link.Right ∧ s.time.Follows s.link.state :=
  ⟨fun ⟨hc, ha, hh, he, hq, hs, ho⟩ => ⟨⟨hc, ha, hh, he, hq⟩, hs, ho⟩,
    fun ⟨⟨hc, ha, hh, he, hq⟩, hs, ho⟩ => ⟨hc, ha, hh, he, hq, hs, ho⟩⟩

/-- The invariant speaks of these parts of the state alone. -/
theorem State.linkOk.of_eq (hs : s.linkOk) (h : t.link.state = s.link.state ∧ t.link.carrier = s.link.carrier ∧
    t.link.acquired = s.link.acquired ∧ t.link.history = s.link.history ∧ t.link.expected = s.link.expected ∧
    t.time.source = s.time.source ∧ t.time.supplier = s.time.supplier ∧ t.time.holdover = s.time.holdover) : t.linkOk := by
  obtain ⟨hstate, hcarrier, hacquired, hhistory, hexpected, hsource, hsupplier, hholdover⟩ := h
  simpa only [State.linkOk, Link.badCount, hstate, hcarrier, hacquired, hhistory, hexpected, hsource, hsupplier, hholdover] using hs

/-- It holds of a state whose two blocks are right beside each other. -/
theorem State.linkOk_of_blocks {l : Link} {b : TimeBase} (hl : l.Right) (hb : b.Follows l.state) (hlink : t.link = l)
    (htime : t.time = b) : t.linkOk :=
  State.linkOk_iff.2 (hlink ▸ htime ▸ ⟨hl, hb⟩)

/-! ### The time base at a change of the link state -/

/-- The time base tells UP from the other link states, and no more. -/
theorem TimeBase.Follows.of_up_iff {b : TimeBase} {st st' : LinkState} (h : b.Follows st) (hup : st = .up ↔ st' = .up) :
    b.Follows st' where
  supplier := by simpa only [supplierFor, hup] using h.supplier
  holdover := by simpa only [ne_eq, hup] using h.holdover

/-- With tick source LOCAL it follows no link state at all (R123). -/
theorem TimeBase.Follows.of_local {b : TimeBase} {st : LinkState} (h : b.Follows st) (hb : b.source ≠ .linkRef) (st' : LinkState) :
    b.Follows st' where
  supplier := by simpa [supplierFor, hb] using h.supplier
  holdover := by simpa [hb] using h.holdover

theorem State.timeLinkUp_follows {st : LinkState} (h : s.time.Follows st) : s.timeLinkUp.time.Follows .up := by
  rw [State.timeLinkUp_eq]
  by_cases hb : s.time.source = .linkRef
  · simp only [if_pos hb]
    exact ⟨by simp [supplierFor, hb], by simp⟩
  · simp only [if_neg hb]
    exact h.of_local hb _

theorem State.timeLinkLost_follows {st st' : LinkState} (h : s.time.Follows st) (hst : st' ≠ .up) :
    s.timeLinkLost.time.Follows st' := by
  by_cases hb : s.time.source = .linkRef
  · rw [s.timeLinkLost_link hb]
    exact ⟨by simp [supplierFor, hst], by simp [hb, hst]⟩
  · rw [s.timeLinkLost_local hb]
    exact h.of_local hb _

/-- A change of the tick source takes the supplier and holdover from the link state (R126). -/
theorem State.setTickSource_follows (h : s.time.Follows s.link.state) (v : TickSource) :
    (s.setTickSource v).time.Follows s.link.state := by
  rw [State.setTickSource_eq]
  by_cases hv : v = s.time.source
  · simp only [if_pos hv]
    exact h
  · simp only [if_neg hv]
    exact ⟨rfl, by simp⟩

/-! ### The receiver's record -/

/-- The quality history keeps at most eight results (R106). -/
theorem Link.record_length (l : Link) (good : Bool) : (l.record good).history.length ≤ 8 := by
  simp only [Link.record, List.length_drop, Config.historyPlaces]
  omega

/-- A good result adds no bad one. -/
theorem Link.record_badCount (l : Link) : (l.record true).badCount ≤ l.badCount := by
  have hdrop := (List.drop_sublist ((l.history ++ [true]).length - Config.historyPlaces) (l.history ++ [true])).countP_le
    (p := fun good => !good)
  simpa [Link.badCount, Link.record, List.countP_append] using hdrop

/-- A result recorded keeps the record right, a bad one in UP apart, which the fall-back of R107 judges. -/
theorem Link.Right.record {l : Link} (h : l.Right) {good : Bool} (hgood : l.state = .up → good = true) : (l.record good).Right where
  carrier := by simpa using h.carrier
  acquired := by simpa using h.acquired
  history := l.record_length good
  expected := by simpa using h.expected
  quality hup := by
    simp only [Link.record_keeps] at hup
    rw [hgood hup]
    exact l.record_badCount.trans_lt (h.quality hup)

/-- In DOWN the record holds nothing of a link (R108). -/
theorem Link.lose_right (l : Link) : l.lose.Right :=
  ⟨by simp [Link.lose], Nat.zero_le _, Nat.zero_le _, fun h => absurd rfl h, nofun⟩

/-- After a reset it holds nothing of a link either (R122). -/
theorem Link.reset_right (station : Byte) : (Link.reset station).Right :=
  ⟨by simp [Link.reset], Nat.zero_le _, Nat.zero_le _, fun h => absurd rfl h, nofun⟩

theorem TimeBase.reset_follows : TimeBase.reset.Follows .down := ⟨rfl, by decide⟩

/-! ### The timing line -/

/-- A transition on a line without carrier leaves DOWN, which the time base does not tell from ACQUIRING (R102, R123). -/
theorem State.linkOk.seeTransition (hs : s.linkOk) : s.seeTransition.linkOk := by
  obtain ⟨hlink, htime⟩ := State.linkOk_iff.1 hs
  unfold State.seeTransition
  split
  · exact hs
  · split
    · exact hs.of_eq (by simp)
    · next hc =>
      have hdown : s.link.state = .down := not_not.1 (mt hlink.carrier.2 hc)
      refine State.linkOk_iff.2 ⟨⟨by simp, Nat.zero_le _, Nat.zero_le _, fun h => absurd rfl h, nofun⟩, ?_⟩
      exact htime.of_up_iff (by simp [hdown])

/-- The loss of carrier: the time base hears of it where the link was UP (R108, R125). -/
theorem State.linkOk.takeCarrierLoss (hs : s.linkOk) : s.takeCarrierLoss.linkOk := by
  have htime := (State.linkOk_iff.1 hs).2
  unfold State.takeCarrierLoss
  split
  · by_cases hup : s.link.state = .up
    · have hfollows : ((s.updLink Link.lose).raise .linkState).timeLinkLost.time.Follows .down :=
        State.timeLinkLost_follows htime nofun
      rw [s.enterDown_up hup]
      exact State.linkOk_of_blocks s.link.lose_right hfollows (by simp) (by simp)
    · rw [s.enterDown_other hup]
      exact State.linkOk_of_blocks s.link.lose_right (htime.of_up_iff (by simp [hup, Link.lose])) (by simp) (by simp)
  · exact hs

/-- The entry to UP (R105): the time base goes over to the link (R125). -/
theorem State.linkOk.enterUp (hs : s.linkOk) (hst : s.link.state = .acquiring) : s.enterUp.linkOk := by
  obtain ⟨hlink, htime⟩ := State.linkOk_iff.1 hs
  have hcarrier : s.link.carrier = true := hlink.carrier.2 (by simp [hst])
  have hright : s.link.rise.Right :=
    ⟨by simp [Link.rise, hcarrier], Nat.zero_le _, by simp [Link.rise], fun h => absurd rfl h,
      fun _ => by simp [Link.badCount, Link.rise]⟩
  have hfollows : ((s.updLink Link.rise).raise .linkState).timeLinkUp.time.Follows .up := State.timeLinkUp_follows htime
  rw [State.enterUp_rise]
  exact State.linkOk_of_blocks hright hfollows (by simp) (by simp)

/-- A frame in ACQUIRING (R105). -/
theorem State.linkOk.frameAcquiring (hs : s.linkOk) (hst : s.link.state = .acquiring) (good : Bool) : (s.frameAcquiring good).linkOk := by
  obtain ⟨hlink, htime⟩ := State.linkOk_iff.1 hs
  have hrecord : (s.link.record good).Right := hlink.record (by simp [hst])
  cases good with
  | true =>
    rcases hlink.acquired.lt_or_eq with hrun | hrun
    · rw [s.frameAcquiring_counts hrun]
      exact State.linkOk_of_blocks (l := { s.link.record true with acquired := s.link.acquired + 1 })
        { hrecord with acquired := hrun } htime rfl rfl
    · rw [s.frameAcquiring_completes hrun]
      exact hs.enterUp hst
  | false =>
    rw [State.frameAcquiring_breaks]
    exact State.linkOk_of_blocks (l := { s.link.record false with acquired := 0, lastError := some .check })
      { hrecord with acquired := Nat.zero_le _ } htime rfl rfl

/-- The fall back to ACQUIRING keeps carrier and the history (R107). -/
theorem State.fallBack_linkOk {st : LinkState} (hc : s.link.carrier = true) (hh : s.link.history.length ≤ 8) (hf : s.time.Follows st) :
    s.fallBack.linkOk := by
  have hright : s.link.fall.Right := ⟨by simp [Link.fall, hc], Nat.zero_le _, hh, fun h => absurd rfl h, nofun⟩
  have hfollows : ((s.updLink Link.fall).raise .linkState).timeLinkLost.time.Follows .acquiring :=
    State.timeLinkLost_follows hf nofun
  rw [State.fallBack_fall]
  exact State.linkOk_of_blocks hright hfollows (by simp) rfl

/-- A bad frame in UP: with three bad results the link falls back (R107, R110). -/
theorem State.linkOk.frameBad (hs : s.linkOk) (hst : s.link.state = .up) : s.frameBad.linkOk := by
  obtain ⟨hlink, htime⟩ := State.linkOk_iff.1 hs
  have hlength := s.link.record_length false
  by_cases hbad : (s.link.record false).badCount < 3
  · rw [s.frameBad_stays hbad]
    refine State.linkOk_of_blocks (l := { s.link.record false with lastError := some .check }) ?_ htime rfl rfl
    exact ⟨hlink.carrier, hlink.acquired, hlength, hlink.expected, fun _ => hbad⟩
  · have hcarrier : s.link.carrier = true := hlink.carrier.2 (by simp [hst])
    rw [s.frameBad_falls hbad]
    exact State.fallBack_linkOk (s := s.frameFaulted) hcarrier hlength htime

/-- A good frame in UP sets the expected sequence, and what it acts on is neither block but for an EPOCH (R110 to R116). -/
theorem State.linkOk.frameGood (hs : s.linkOk) (hst : s.link.state = .up) (f : FrameFields) : (s.frameGood f).linkOk := by
  obtain ⟨hlink, htime⟩ := State.linkOk_iff.1 hs
  have hrecord : (s.link.record true).Right := hlink.record fun _ => rfl
  have htested : ((s.updLink (Link.record true)).sequenceTest f.sequence).linkOk := by
    rw [State.sequenceTest_eq]
    exact State.linkOk_of_blocks (l := { s.link.record true with expected := some (f.sequence + 1) })
      { hrecord with expected := fun _ => hst } htime rfl rfl
  by_cases hmine : f.station = s.link.station ∨ f.station = 255
  · rw [s.frameGood_mine hmine]
    exact htested.of_eq (by simp)
  · rw [s.frameGood_other hmine]
    exact htested

/-- A received frame is settled by the link state and its check (R101). -/
theorem State.linkOk.receiveFrame (hs : s.linkOk) (f : LinkFrame) : (s.receiveFrame f).linkOk := by
  cases hframe : s.link.inFrame with
  | false => rwa [State.receiveFrame_none f hframe]
  | true =>
    have hover : s.frameOver.linkOk := hs.of_eq (by simp [State.frameOver])
    rw [s.receiveFrame_inFrame f hframe]
    cases hst : s.frameOver.link.state with
    | down => rwa [State.settleFrame_down _ f hst]
    | acquiring =>
      rw [State.settleFrame_acquiring _ f hst]
      exact hover.frameAcquiring hst _
    | up =>
      cases hf : f.checkGood with
      | false =>
        rw [State.settleFrame_bad _ f hst hf]
        exact hover.frameBad hst
      | true =>
        cases f with
        | truncated => cases hf
        | whole b =>
          rw [State.settleFrame_good _ b hst hf]
          exact hover.frameGood hst _

/-! ### The tick and the messages -/

/-- What a tick leaves due before it and takes first (R127). -/
theorem State.linkOk.takeDueExpiries (hs : s.linkOk) : s.takeDueExpiries.linkOk := by
  have hport : s.takeTimeout.takeRecovery.takeHoldExpiry.linkOk := hs.of_eq (by simp)
  have hgroups : (groupIds.foldl State.takeGroupExpiry s.takeTimeout.takeRecovery.takeHoldExpiry).linkOk :=
    List.foldlRecOn groupIds State.takeGroupExpiry hport fun _ hu _ _ => hu.of_eq (by simp)
  unfold State.takeDueExpiries
  exact hgroups.takeCarrierLoss

/-- SET_TIMING (R126). -/
theorem State.linkOk.setTickSource (hs : s.linkOk) (v : TickSource) : (s.setTickSource v).linkOk := by
  obtain ⟨hlink, htime⟩ := State.linkOk_iff.1 hs
  exact State.linkOk_of_blocks hlink (State.setTickSource_follows htime v) (by simp) rfl

/-- A message leaves the management port alone changed, but for what its action does. -/
theorem State.linkOk.settle (hs : s.linkOk) (i : Instr) {act : State → State × Reply} (hact : (act s).1.linkOk) :
    (s.settle i act).linkOk := by
  unfold State.settle
  split
  · exact hact
  all_goals exact hs

/-- A command with an argument, where it is so for each value. -/
theorem State.linkOk.withArg {α : Type} (hs : s.linkOk) {arg : Option α} {act : α → State × Reply} (hact : ∀ a, (act a).1.linkOk) :
    (s.withArg arg act).1.linkOk := by
  cases arg with
  | none => exact hs
  | some a => exact hact a

/-! ### Commands and steps -/

/-- A command whose one effect is a step of the state. -/
theorem State.linkOk.of_next (h : (.next u : Host.Outcome State Fault Refusal) = .next t) (hu : u.linkOk) : t.linkOk := by
  cases h
  exact hu

/-- A command that the state of the part lets happen or not. -/
theorem State.linkOk.of_ite {v : State} {p : Prop} [Decidable p]
    (h : (if p then .next u else .next v : Host.Outcome State Fault Refusal) = .next t) (hu : u.linkOk) (hv : v.linkOk) : t.linkOk := by
  split at h <;> cases h
  · exact hu
  · exact hv

/-- A message. -/
theorem State.linkOk.of_settle (hs : s.linkOk) {i : Instr} {act : State → State × Reply}
    (h : (.next (s.settle i act) : Host.Outcome State Fault Refusal) = .next t) (hact : (act s).1.linkOk) : t.linkOk :=
  .of_next h (hs.settle i hact)

/-- No command takes the link receiver and the time base out of step. -/
theorem State.linkOk.exec (hs : s.linkOk) {c : Instr} (h : exec c s = .next t) : t.linkOk := by
  cases c
  -- The bus path, the downstream port and the timers.
  case upstreamCycle addr kind cls lanes data =>
    change execUpstreamCycle addr kind cls lanes data s = _ at h
    unfold execUpstreamCycle at h
    split at h
    · exact .of_next h hs
    · split at h
      · cases h
      · exact .of_next h (hs.of_eq (by simp))
  case downstreamResponse | downstreamTimeout | recoveryExpiry | holdExpiry | delayExpiry | intervalExpiry | late =>
    exact .of_next h (hs.of_eq (by simp))
  case tick => exact .of_ite h hs (hs.takeDueExpiries.of_eq (by simp))
  -- The timing line.
  case carrierPresent | lineTransition => exact .of_next h hs.seeTransition
  case carrierLoss => exact .of_next h hs.takeCarrierLoss
  case frameReceived f => exact .of_next h (hs.receiveFrame f)
  case startMarker => exact .of_ite h ((hs.receiveFrame .truncated).of_eq (by simp)) hs
  -- The pins.
  case trigEdge => exact .of_ite h hs (hs.of_eq (by simp))
  case inhChange => exact .of_ite h (hs.of_eq (by simp)) (hs.of_eq (by simp))
  case rstAsserted => exact .of_next h (State.linkOk_of_blocks (Link.reset_right s.link.station) TimeBase.reset_follows rfl rfl)
  case rstReleased => exact .of_ite h (hs.of_eq (by simp)) hs
  -- The management transaction.
  case selectAsserted =>
    change execSelectAsserted s = _ at h
    unfold execSelectAsserted at h
    split at h
    · exact .of_next h hs
    · split at h <;> exact .of_next h hs
  case selectReleased => exact .of_ite h (State.linkOk_of_blocks (Link.reset_right s.link.station) TimeBase.reset_follows rfl rfl) hs
  case responseSent =>
    change execResponseSent s = _ at h
    unfold execResponseSent at h
    split at h <;> exact .of_next h (hs.of_eq (by simp))
  -- The messages with no argument.
  case checkError | badCommand | getPath | getTiming | getEpoch | getLink | getStatus | setMask | clearCauses | clearRefusal |
      resetAll =>
    exact hs.of_settle h hs
  case resetDatapath => exact hs.of_settle h (hs.of_eq (by simp))
  case takeCompletion | takeEvent | getRefusal =>
    refine hs.of_settle h ?_
    split <;> exact hs
  case arm groupSet =>
    exact hs.of_settle h (List.foldlRecOn groupIds (State.armNamed groupSet) hs fun _ hu _ _ => hu.of_eq (by simp))
  -- The messages whose arguments are tested first.
  case getWindow | getGroup | clearMissed | setHostInhibit => exact hs.of_settle h (hs.withArg fun _ => hs.of_eq (by simp))
  case enableGroup | disableGroup | resumeSkip =>
    refine hs.of_settle h (hs.withArg fun _ => ?_)
    split <;> exact hs.of_eq (by simp)
  case purgeCollecting =>
    refine hs.of_settle h (hs.withArg fun _ => ?_)
    unfold State.purgeCollecting
    split <;> exact hs.of_eq (by simp)
  case purgeAll =>
    refine hs.of_settle h (hs.withArg fun _ => ?_)
    unfold State.purgeAll
    split <;> exact hs.of_eq (by simp)
  case setWindowEnable => exact hs.of_settle h (hs.withArg fun _ => hs.withArg fun _ => hs)
  case setPath =>
    refine hs.of_settle h (hs.withArg fun _ => ?_)
    split <;> exact hs
  case setWindow =>
    refine hs.of_settle h (hs.withArg fun _ => hs.withArg fun _ => ?_)
    split <;> exact hs
  case resumeRetry | readEntry =>
    refine hs.of_settle h (hs.withArg fun _ => ?_)
    split
    · split <;> exact hs.of_eq (by simp)
    · exact hs
  case setGroup =>
    refine hs.of_settle h (hs.withArg fun _ => hs.withArg fun _ => ?_)
    split
    · exact hs
    · split <;> exact hs.of_eq (by simp)
  case setTiming =>
    exact hs.of_settle h (hs.withArg fun src => hs.withArg fun _ => hs.withArg fun _ => hs.withArg fun _ =>
      (hs.setTickSource src).of_eq (by simp))
  case localFrameTrigger | localFrameEvent | localFrameSetup | localFrameStop | localFrameEpoch =>
    exact hs.of_settle h (hs.withArg fun _ => hs.withArg fun _ => hs.withArg fun _ => hs.of_eq (by simp))

/-- Settles O14: what waits and the management port are no part of either block, and every command keeps them in step. -/
theorem stepsKeepLinkAndTimeBaseInStep : Obligations.StepsKeepLinkAndTimeBaseInStep := by
  intro s t hs h
  rcases step_cases h with ⟨m, q, k, rfl, -⟩ | ⟨i, q, k, hi⟩
  · exact hs
  · exact State.linkOk.exec (s := { s with pending := q, clocks := k }) hs hi

end Sys2Proof.Machine
end

section
/-! PROOFS. The bits of a frame, transitions and markers, the loss of carrier, and frames in ACQUIRING and bad frames in UP, in the words of
the statements (R101 to R109, R125, R134). -/

namespace Sys2Proof.Machine

open Sys2Proof.Claims

/-! ### The wire -/

/-- What stands before some bits is a multiple of their weight. -/
theorem toNat_append_eq {m n : Nat} (x : BitVec m) (y : BitVec n) : (x ++ y).toNat = x.toNat * 2 ^ n + y.toNat := by
  rw [BitVec.toNat_append, ← Nat.shiftLeft_add_eq_or_of_lt y.isLt, Nat.shiftLeft_eq]

/-- Some bits of a value are the ones that its number holds at their weight. -/
theorem extractLsb'_eq_of_toNat {w n start : Nat} {x : BitVec w} {y : BitVec n} (h : x.toNat / 2 ^ start % 2 ^ n = y.toNat) :
    x.extractLsb' start n = y :=
  BitVec.eq_of_toNat_eq (by rw [BitVec.extractLsb'_toNat, Nat.shiftRight_eq_div_pow, h])

/-- Settles O7: each field is read from the bits where it was put, and so is each of the four bytes. -/
theorem frameFieldsStandInSentOrder : Obligations.FrameFieldsStandInSentOrder := by
  intro station argument check kind profile sequence bits hbits
  refine ⟨?_, fun b0 b1 b2 hbytes => ?_⟩
  · have hnumber := (congrArg BitVec.toNat hbits).trans (toNat_append_eq _ check)
    simp only [toNat_append_eq] at hnumber
    have hbounds : kind.toNat < 8 ∧ profile.toNat < 4 ∧ argument.toNat < 256 ∧ sequence.toNat < 8 ∧ check.toNat < 256 :=
      ⟨kind.isLt, profile.isLt, argument.isLt, sequence.isLt, check.isLt⟩
    have hstation : bits.extractLsb' 24 8 = station := extractLsb'_eq_of_toNat (by omega)
    have hkind : bits.extractLsb' 21 3 = kind := extractLsb'_eq_of_toNat (by omega)
    have hprofile : bits.extractLsb' 19 2 = profile := extractLsb'_eq_of_toNat (by omega)
    have hargument : bits.extractLsb' 11 8 = argument := extractLsb'_eq_of_toNat (by omega)
    have hsequence : bits.extractLsb' 8 3 = sequence := extractLsb'_eq_of_toNat (by omega)
    rw [FrameFields.ofBits, hstation, hkind, hprofile, hargument, hsequence]
  · have hnumber := (congrArg BitVec.toNat hbytes).trans (toNat_append_eq _ check)
    simp only [toNat_append_eq] at hnumber
    have hbounds : b1.toNat < 256 ∧ b2.toNat < 256 ∧ check.toNat < 256 := ⟨b1.isLt, b2.isLt, check.isLt⟩
    have h3 : byteAt bits 3 = b0 := extractLsb'_eq_of_toNat (by omega)
    have h2 : byteAt bits 2 = b1 := extractLsb'_eq_of_toNat (by omega)
    have h1 : byteAt bits 1 = b2 := extractLsb'_eq_of_toNat (by omega)
    have h0 : byteAt bits 0 = check := extractLsb'_eq_of_toNat (by omega)
    rw [LinkFrame.checkGood, h3, h2, h1, h0]

/-- Settles O8: the words are read by evaluation. -/
theorem writtenMessagesAreRead : Obligations.WrittenMessagesAreRead := by
  refine ⟨?_, ?_, ?_, ?_, ?_, ?_⟩ <;> decide +kernel

/-! ### Transitions, markers and carrier -/

/-- Settles O37: both transitions are one operation, and a marker receives what is in progress first. -/
theorem transitionsAndMarkersMoveTheReceiver : Obligations.TransitionsAndMarkersMoveTheReceiver := by
  intro s
  have hmarker (hc : s.link.carrier = true) :
      exec .startMarker s = .next ((s.receiveFrame .truncated).updLink fun l => { l with inFrame := true }) := if_pos hc
  refine ⟨fun c hc hr => ?_, fun hcarrier => ⟨fun hf => ?_, fun _ => ⟨s.receiveFrame .truncated, rfl, hmarker hcarrier⟩⟩⟩
  · have hexec : exec c s = .next s.seeTransition := by rcases hc with rfl | rfl <;> rfl
    rw [hexec, State.seeTransition, if_neg (by simp [hr])]
    refine ⟨fun hcarrier => ?_, fun hcarrier => ?_⟩
    · rw [if_neg (by simp [hcarrier])]
      rfl
    · rw [if_pos hcarrier]
      rfl
  · rw [hmarker hcarrier, State.receiveFrame_none _ hf]
    rfl

/-- Settles O38: the receiver's record is lost, then the time base and the inhibit unit hear of it. -/
theorem carrierLossTakesTheLinkDown : Obligations.CarrierLossTakesTheLinkDown := by
  intro s hcarrier hdue
  show Host.Outcome.next s.takeCarrierLoss = _
  rw [State.takeCarrierLoss, if_pos (by simp [hcarrier, hdue])]
  by_cases hup : s.link.state = .up
  · rw [s.enterDown_up hup]
    by_cases hsource : s.time.source = .linkRef
    · have hheld : ((s.updLink Link.lose).raise .linkState).timeLinkLost = _ := State.timeLinkLost_link _ hsource
      simp only [hheld, State.inhibitLinkDown_eq, if_pos (And.intro hup hsource)]
      rfl
    · have hkept : ((s.updLink Link.lose).raise .linkState).timeLinkLost = _ := State.timeLinkLost_local _ hsource
      simp only [hkept, State.inhibitLinkDown_eq, hsource, and_false, if_false]
      rfl
  · simp only [s.enterDown_other hup, State.inhibitLinkDown_eq, hup, false_and, if_false]
    rfl

/-! ### Received frames -/

/-- A frame in progress is received by its command (R101). -/
theorem exec_frameReceived (s : State) (f : LinkFrame) (h : s.link.inFrame = true) :
    exec (.frameReceived f) s = .next (s.frameOver.settleFrame f) :=
  congrArg Host.Outcome.next (s.receiveFrame_inFrame f h)

/-- The result joins the newest eight (R106). -/
theorem State.frameOver_record (s : State) (good : Bool) : s.frameOver.link.record good = judged s.link good := by
  have hreversed : good :: s.link.history.reverse = (s.link.history ++ [good]).reverse := by simp
  simp only [Link.record, judged, hreversed, List.take_reverse, List.reverse_reverse]
  rfl

/-- The bad count, in the statements' words (R106). -/
theorem Link.badCount_length (l : Link) : l.badCount = (l.history.filter fun good => !good).length := List.countP_eq_length_filter

/-- Settles O39: the link state and the check name the operation, and each answers in the statement's words. -/
theorem framesMakeAndBreakTheLink : Obligations.FramesMakeAndBreakTheLink := by
  intro s f hframe
  rw [exec_frameReceived s f hframe]
  refine ⟨fun hst hf hrun => ?counts, fun hst hf hrun => ?completes, fun hst hf => ?breaks, fun hst hf => ?bad⟩
  case counts =>
    rw [s.frameOver.settleFrame_acquiring f hst, hf, s.frameOver.frameAcquiring_counts hrun, State.frameOver_record]
    rfl
  case completes =>
    rw [s.frameOver.settleFrame_acquiring f hst, hf, s.frameOver.frameAcquiring_completes hrun, State.enterUp_eq]
    rfl
  case breaks =>
    rw [s.frameOver.settleFrame_acquiring f hst, hf, State.frameAcquiring_breaks, State.frameOver_record]
    rfl
  case bad =>
    rw [s.frameOver.settleFrame_bad f hst hf]
    by_cases hbad : (s.frameOver.link.record false).badCount < 3
    · rw [s.frameOver.frameBad_stays hbad, State.frameFaulted, State.frameOver_record]
      rw [State.frameOver_record, Link.badCount_length] at hbad
      simp only [if_pos hbad]
      rfl
    · rw [s.frameOver.frameBad_falls hbad, State.fallBack_eq, State.frameFaulted, State.frameOver_record]
      rw [State.frameOver_record, Link.badCount_length] at hbad
      simp only [if_neg hbad]
      rfl

end Sys2Proof.Machine
end

section
/-! PROOFS. What a dispatched frame makes of the part, in the words of the statements: the format test, SETUP, STOP and the event record,
for frames of the link and of LOCAL_FRAME (R112 to R116, R119, R142 to R147, R155). -/

namespace Sys2Proof.Machine

open Sys2Proof.Claims

variable {s : State}

/-! ### The format test -/

theorem channelArg_some {b : Byte} {c : Channel} (h : channelArg b = some c) : b.toNat = c.val + 1 := by
  unfold channelArg at h
  split at h
  · next hb =>
    cases h
    exact (Nat.sub_add_cancel hb.1).symm
  · cases h

theorem channelArg_isSome (b : Byte) : (channelArg b).isSome = true ↔ 1 ≤ b.toNat ∧ b.toNat ≤ 8 := by
  unfold channelArg
  split <;> simp_all

/-- All channels, or one of them (5.2). -/
theorem channelChoiceArg_isSome (b : Byte) : (channelChoiceArg b).isSome = true ↔ b.toNat ≤ 8 := by
  unfold channelChoiceArg
  split
  · next hb => simp [hb]
  · next hb =>
    have hpos : b.toNat ≠ 0 := fun h => hb (BitVec.eq_of_toNat_eq h)
    rw [Option.isSome_map, channelArg_isSome]
    omega

/-- The fields that pass the format test are those that have an action (R113). -/
theorem frameAction_isSome (kind : FrameKind) (p : Profile) (a : Byte) : (frameAction kind p a).isSome = true ↔ wellFormatted kind a := by
  cases kind
  case trigger => simp [frameAction, wellFormatted, channelArg_isSome]
  case setup | stop => simp [frameAction, wellFormatted, channelChoiceArg_isSome]
  case event | inhibit | uninhibit | epoch | invalid => simp [frameAction, wellFormatted]

/-! ### The blocks that own the kinds -/

/-- An event record posted, in the statements' words (R155). -/
theorem State.postEvent_eq (s : State) (e : EventRecord) : s.postEvent e = eventPosted s e := by
  unfold eventPosted
  split
  · next h => exact s.postEvent_room e h
  · next h => exact s.postEvent_full e (Nat.not_lt.1 h)

/-- The groups that a SETUP or STOP reaches (R142). -/
theorem GroupConfig.reached_iff (c : GroupConfig) {a : Byte} {choice : ChannelChoice} (h : channelChoiceArg a = some choice)
    (p : Profile) : c.reached choice p = true ↔ reaches c p a := by
  unfold channelChoiceArg at h
  split at h
  · next ha =>
    cases h
    simp [GroupConfig.reached, reaches, ha]
  · next ha =>
    obtain ⟨ch, hch, rfl⟩ := Option.map_eq_some_iff.1 h
    have hval := channelArg_some hch
    have hle : ch.val + 1 ≤ 8 := ch.isLt
    have hall : a ≠ 0#8 := ha
    simp [GroupConfig.reached, reaches, hall, hval, hle]

/-- A SETUP, in the statements' words (R143). -/
theorem State.setup_eq (s : State) {a : Byte} {choice : ChannelChoice} (h : channelChoiceArg a = some choice) (p : Profile) :
    s.setup choice p = setUp s p a := by
  unfold State.setup setUp
  congr 1
  ext i hi : 1
  simp only [Vector.getElem_map, Vector.getElem_ofFn, GroupConfig.reached_iff _ h, Group.arm_eq]
  rfl

/-- A mark that is there already (R83). -/
theorem State.setPhase_self (s : State) {phase : EnginePhase} (h : s.engine.phase = phase) : s.setPhase phase = s := by
  subst h
  rfl

/-- A STOP at the RELEASING group, in the statements' words: a request that waits is withdrawn, a write in flight marks it (R83). -/
theorem State.stopAtEngine_eq (s : State) (g : GroupId) :
    s.stopAtEngine g =
      if s.engine.phase = .running g true .waiting ∨ s.engine.phase = .running g false .waiting then
        batchEnd (engineIdle s) g .stopped
      else if s.engine.phase = .running g false .inFlight then
        { s with engine := { s.engine with phase := .running g true .inFlight } }
      else s := by
  unfold State.stopAtEngine
  cases hp : s.engine.phase with
  | running cur stopping claim =>
    by_cases hcur : cur = g
    case neg => simp [hcur]
    subst hcur
    cases claim with
    | waiting => cases stopping <;> simp [State.endBatch_eq, State.setPhase, engineIdle]
    | inFlight =>
      cases stopping with
      | false => simp [State.setPhase]
      | true => simp [s.setPhase_self hp]
  | idle | draining => simp

/-- A STOP at one group, in the statements' words (R83, R147). -/
theorem State.stopReached_eq (s : State) {a : Byte} {choice : ChannelChoice} (h : channelChoiceArg a = some choice) (p : Profile)
    (g : GroupId) : State.stopReached choice p s g = stopsOne p a s g := by
  unfold State.stopReached stopsOne
  by_cases hr : reaches s.groups[g].config p a
  case neg => rw [if_neg (mt (GroupConfig.reached_iff _ h p).1 hr), if_pos hr]
  case pos =>
  rw [if_pos ((GroupConfig.reached_iff _ h p).2 hr), if_neg (not_not.2 hr), State.stopGroup]
  cases s.groups[g].state
  case disabled | collecting => rfl
  case pending | ready | interval | held | faulted => exact s.endBatch_eq g .stopped
  case releasing => exact s.stopAtEngine_eq g

/-- A STOP, in the statements' words (R146). -/
theorem State.stop_eq (s : State) {a : Byte} {choice : ChannelChoice} (h : channelChoiceArg a = some choice) (p : Profile) :
    s.stop choice p = stopped s p a := by
  have hone : State.stopReached choice p = stopsOne p a := funext fun u => funext fun g => u.stopReached_eq h p g
  have hdisarmed : s.groups.map (Group.disarmBy choice p) = Vector.ofFn fun g =>
      if reaches s.groups[g].config p a ∧ s.groups[g].state ≠ .disabled then { s.groups[g] with armed := false }
      else s.groups[g] := by
    ext i hi : 1
    simp only [Vector.getElem_map, Vector.getElem_ofFn, Group.disarmBy, Bool.and_eq_true, GroupConfig.reached_iff _ h, bne_iff_ne]
    rfl
  simp only [State.stop, stopped, State.work_eq, hone, State.raise_groups, hdisarmed]
  rfl

/-- A dispatched frame acts on the block that owns its kind (R114 to R116, R119). -/
theorem State.dispatch_acted (s : State) (source : Origin) {kind : FrameKind} {p : Profile} {a : Byte} {action : FrameAction}
    (h : frameAction kind p a = some action) : acted s source kind p a (s.dispatch source action) := by
  cases kind
  case trigger =>
    obtain ⟨c, hc, rfl⟩ := Option.map_eq_some_iff.1 h
    exact ⟨c, channelArg_some hc, triggered_offerTrigger s _⟩
  case event =>
    cases h
    show triggered (eventPosted s _) _ ((s.postEvent _).offerTrigger _)
    rw [State.postEvent_eq]
    exact triggered_offerTrigger _ _
  case inhibit | uninhibit =>
    cases h
    exact s.changeSources_eq _
  case setup =>
    obtain ⟨choice, hc, rfl⟩ := Option.map_eq_some_iff.1 h
    exact ⟨(channelChoiceArg_isSome a).1 (by simp [hc]), s.setup_eq hc p⟩
  case stop =>
    obtain ⟨choice, hc, rfl⟩ := Option.map_eq_some_iff.1 h
    exact ⟨(channelChoiceArg_isSome a).1 (by simp [hc]), s.stop_eq hc p⟩
  case epoch =>
    cases h
    rfl
  case invalid => cases h

/-! ### The statements -/

/-- A good frame in UP is recorded and its sequence tested (R110, R111). -/
theorem State.frameOver_tested (s : State) (q : BitVec 3) :
    (s.frameOver.updLink (Link.record true)).sequenceTest q =
      { s with
        link := { judged s.link true with expected := some (q + 1) }
        report := if s.link.expected ≠ none ∧ s.link.expected ≠ some q then s.report.with .frameGap else s.report } := by
  rw [State.sequenceTest_eq, ← State.frameOver_record]
  rfl

/-- Settles O40: the frame is recorded and tested, and goes on where the station and the format let it. -/
theorem goodFramesInUpAreDispatched : Obligations.GoodFramesInUpAreDispatched := by
  intro s b f hframe hup hgood hf
  subst hf
  rw [exec_frameReceived s _ hframe, s.frameOver.settleFrame_good b hup hgood]
  refine ⟨fun hother => ?_, fun hmine hformat => ?_, fun hmine hformat => ?_⟩
  · rw [s.frameOver.frameGood_other hother, State.frameOver_tested]
  · have hnone := Option.not_isSome_iff_eq_none.1 (mt (frameAction_isSome _ (FrameFields.ofBits b).profile _).1 hformat)
    rw [s.frameOver.frameGood_mine hmine, State.frameOver_tested, State.formatAndDispatch, hnone]
    rfl
  · obtain ⟨action, ha⟩ := Option.isSome_iff_exists.1 ((frameAction_isSome _ (FrameFields.ofBits b).profile _).2 hformat)
    rw [s.frameOver.frameGood_mine hmine, State.frameOver_tested, State.formatAndDispatch, ha]
    exact ⟨_, rfl, State.dispatch_acted _ .link ha⟩

/-- A LOCAL_FRAME row whose fields pass the format test acts with source HOST (R119). -/
theorem localFrame_answers {i : Instr} {kind : FrameKind} {p : Profile} {a : Byte} (n : Byte) (hc : inCommand s)
    (he : exec i s = .next (s.settle i fun s => s.localFrame n (num p.val) a)) (hk : localKindArg n = some kind)
    (hw : wellFormatted kind a) : ∃ t, acted s .host kind p a t ∧ answers s i t .done [] := by
  obtain ⟨action, ha⟩ := Option.isSome_iff_exists.1 ((frameAction_isSome kind p a).2 hw)
  refine ⟨s.dispatch .host action, s.dispatch_acted .host ha, answers_of_settle hc he ?_⟩
  simp only [State.localFrame, hk, profileArg_num, ha, State.withArg_some]
  rfl

/-- Other fields are refused (R119). -/
theorem State.localFrame_refused (s : State) {n p a : Byte}
    (h : ∀ kind, localKindArg n = some kind → 3 < p.toNat ∨ ¬ wellFormatted kind a) :
    s.localFrame n p a = (s, ⟨.badArgument, []⟩) := by
  cases hk : localKindArg n with
  | none => exact State.withArg_bad (.inl hk)
  | some kind =>
    rw [State.localFrame, hk, State.withArg_some]
    rcases h kind hk with hp | hformat
    · exact State.withArg_bad (.inl (profileArg_bad hp))
    · exact State.withArg_bad (.inr fun q => State.withArg_bad
        (.inl (Option.not_isSome_iff_eq_none.1 (mt (frameAction_isSome kind q a).1 hformat))))

/-- A kind byte that is none of the other four rows' names TRIGGER or nothing (R119). -/
theorem localKindArg_trigger {n : Byte} {kind : FrameKind} (hn : n.toNat ∉ [1, 4, 5, 6]) (h : localKindArg n = some kind) :
    n = 0 ∧ kind = .trigger := by
  unfold localKindArg at h
  split at h
  case h_1 h0 =>
    cases h
    exact ⟨BitVec.eq_of_toNat_eq h0, rfl⟩
  all_goals simp_all

/-- Settles O56: each row's kind byte names its kind, and the three tests refuse the rest. -/
theorem localFramesActAsDispatchedFrames : Obligations.LocalFramesActAsDispatchedFrames := by
  intro s hc
  refine ⟨fun i kind p a hi hw => ?accepted, fun n p a hn hbad => ?kind,
    fun p a => ⟨fun hp => ⟨?event, ?epoch⟩, fun hbad => ⟨?setup, ?stop⟩⟩⟩
  case accepted =>
    simp only [List.mem_cons, List.not_mem_nil, or_false, Prod.mk.injEq] at hi
    rcases hi with ⟨rfl, rfl⟩ | ⟨rfl, rfl⟩ | ⟨rfl, rfl⟩ | ⟨rfl, rfl⟩ | ⟨rfl, rfl⟩
    · exact localFrame_answers 0 hc rfl rfl hw
    · exact localFrame_answers 1 hc rfl rfl hw
    · exact localFrame_answers 4 hc rfl rfl hw
    · exact localFrame_answers 5 hc rfl rfl hw
    · exact localFrame_answers 6 hc rfl rfl hw
  case kind =>
    refine answers_of_settle hc rfl (s.localFrame_refused fun kind hk => ?_)
    obtain ⟨rfl, rfl⟩ := localKindArg_trigger hn hk
    rcases hbad with h | h | h | h
    · exact absurd rfl h
    · exact .inl h
    · exact .inr fun ⟨_, hrange, _⟩ => absurd (hrange rfl).1 (by simp [h])
    · exact .inr fun ⟨_, hrange, _⟩ => absurd (hrange rfl).2 (Nat.not_le.2 h)
  case event | epoch => exact answers_of_settle hc rfl (s.localFrame_refused fun _ _ => .inl hp)
  case setup | stop =>
    refine answers_of_settle hc rfl (s.localFrame_refused fun kind hk => hbad.imp_right fun ha ⟨_, _, hrange⟩ => ?_)
    cases hk
    exact absurd (hrange (by simp)) (Nat.not_le.2 ha)

end Sys2Proof.Machine
end

section
/-! PROOFS. The tick: it takes the expiries left due, as their own commands would, and then counts everywhere (R123, R124, R127, R128;
log entries 3, 4, 6 and 13). -/

namespace Sys2Proof.Machine

open Sys2Proof.Claims

variable {s t u : State}

/-! ### Commands in a row -/

/-- A command run by itself. -/
theorem runs_singleton {c : Instr} (h : exec c s = .next t) : runs [c] s t := ⟨t, h, rfl⟩

/-- Two runs, one after the other, are a run of both lists of commands. -/
theorem runs_append {cs ds : List Instr} (hc : runs cs s t) (hd : runs ds t u) : runs (cs ++ ds) s u := by
  induction cs generalizing s with
  | nil =>
    cases hc
    exact hd
  | cons c cs ih =>
    obtain ⟨v, hv, hrest⟩ := hc
    exact ⟨v, hv, ih hrest⟩

/-- Where the commands for each item of a list run as one function of the state, the commands for them all run as its fold. -/
theorem runs_flatMap {α : Type} {cs : α → List Instr} {f : State → α → State} (h : ∀ s a, runs (cs a) s (f s a)) (as : List α)
    (s : State) : runs (as.flatMap cs) s (as.foldl f s) := by
  induction as generalizing s with
  | nil => exact rfl
  | cons a as ih => exact runs_append (h s a) (ih (f s a))

/-! ### The expiries left due -/

/-- A group's three commands take whichever expiry of its timer is due (R57, R64, R65). -/
theorem runs_takeGroupExpiry (s : State) (g : GroupId) :
    runs [.delayExpiry g, .intervalExpiry g, .late g] s (s.takeGroupExpiry g) :=
  ⟨s.takeDelay g, rfl, (s.takeDelay g).takeInterval g, rfl, runs_singleton rfl⟩

/-- What a TICK takes first is what the expiries' own commands take, run in the order of log entry 4. -/
theorem runs_takeDueExpiries (s : State) : runs expiries s s.takeDueExpiries := by
  have hport : runs [.downstreamTimeout, .recoveryExpiry, .holdExpiry] s s.takeTimeout.takeRecovery.takeHoldExpiry :=
    ⟨s.takeTimeout, rfl, s.takeTimeout.takeRecovery, rfl, runs_singleton rfl⟩
  exact runs_append (runs_append hport (runs_flatMap runs_takeGroupExpiry groupIds _)) (runs_singleton rfl)

/-- A group whose timer is not due has no expiry to take. -/
theorem State.takeGroupExpiry_none {g : GroupId} (h : s.groups[g].timer ≠ .due) : s.takeGroupExpiry g = s := by
  rw [State.takeGroupExpiry, State.takeDelay_none (.inl h), State.takeInterval_none (.inl h), State.takeLate_none (.inl h)]

/-- With no timer due a TICK has nothing to take before it counts (R127). -/
theorem State.takeDueExpiries_none (hbusy : ∀ a o, s.arbiter.port = .busy a o → o.timer ≠ .due)
    (hover : ∀ o, s.arbiter.port = .draining o ∨ s.arbiter.port = .recovering o → o.timer ≠ .due)
    (hhold : s.queue.holdTimer ≠ .due) (hgroups : ∀ g : GroupId, s.groups[g].timer ≠ .due)
    (hcarrier : s.link.carrierTimer ≠ .due) : s.takeDueExpiries = s := by
  have htimeout : s.takeTimeout = s := State.takeTimeout_none fun a o hp => hp.elim (hbusy a o) fun hd => hover o (.inl hd)
  have hrecovery : s.takeRecovery = s := State.takeRecovery_none fun o hp => hover o (.inr hp)
  have hfold : groupIds.foldl State.takeGroupExpiry s = s :=
    List.foldl_fixed' (fun g => State.takeGroupExpiry_none (hgroups g)) groupIds
  rw [State.takeDueExpiries, htimeout, hrecovery, State.takeHoldExpiry_none (.inr hhold), hfold,
    State.takeCarrierLoss_none hcarrier]

/-! ### The count -/

/-- One timer's tick, in the words of the statements (R127). -/
theorem Timer.tick_eq (t : Timer) : t.tick = ticked t := by cases t <;> rfl

/-- The tick counted, in the words of the statements (R123, R124, R127, R128). -/
theorem State.countTick_eq (s : State) : s.countTick = counted s := by
  unfold State.countTick counted
  simp only [Timer.tick_eq]
  cases hp : s.arbiter.port <;> simp only [PortState.tick, Timer.tick_eq]

/-- Out of RST a TICK takes what is due and counts. -/
theorem exec_tick (hr : s.pins.rst = false) : exec .tick s = .next (counted s.takeDueExpiries) :=
  (if_neg (by simp [hr])).trans (congrArg Host.Outcome.next s.takeDueExpiries.countTick_eq)

/-- Settles O35: RST stops the count, and out of it the tick counts the state that the expiries left due have made. -/
theorem ticksReachEveryTimer : Obligations.TicksReachEveryTimer := by
  intro s
  refine ⟨fun hr => if_pos hr, fun hr hbusy hover hhold hgroups hcarrier => ?quiet, fun hr => ?due⟩
  case quiet => rw [exec_tick hr, State.takeDueExpiries_none hbusy hover hhold hgroups hcarrier]
  case due => exact ⟨s.takeDueExpiries, runs_takeDueExpiries s, exec_tick hr⟩

end Sys2Proof.Machine
end

section
/-! PROOFS. The writers of the inhibit unit: the commands that leave it whole, and what those that change its source set make of the
LINK source (R119, R133 to R136, R141, R172). -/

namespace Sys2Proof.Machine

variable {s t u : State}

/-! ### What a command keeps -/

/-- A command with an argument keeps what it keeps for the value read. -/
theorem State.withArg_keeps {α β : Type} (p : State → β) {arg : Option α} {act : α → State × Reply}
    (hact : ∀ a, arg = some a → p (act a).1 = p s) : p (s.withArg arg act).1 = p s := by
  cases arg with
  | none => rfl
  | some a => exact hact a rfl

/-- A message keeps what its action keeps, of all that is no part of the management port. -/
theorem State.settle_keeps {β : Type} (p : State → β) (hp : ∀ (v : State) (m : Mgmt), p { v with mgmt := m } = p v) (i : Instr)
    {act : State → State × Reply} (hact : p (act s).1 = p s) : p (s.settle i act) = p s := by
  unfold State.settle
  split
  case h_1 => exact (hp _ _).trans hact
  case h_2 | h_3 | h_4 => rfl

/-- What an event keeps. -/
theorem keeps_of_next {β : Type} (p : State → β) (h : (.next u : Host.Outcome State Fault Refusal) = .next t) (hu : p u = p s) :
    p t = p s := by
  cases h
  exact hu

/-- What an event keeps that the state of the part lets happen or not. -/
theorem keeps_of_ite {β : Type} (p : State → β) {v : State} {c : Prop} [Decidable c]
    (h : (if c then .next u else .next v : Host.Outcome State Fault Refusal) = .next t) (hu : p u = p s) (hv : p v = p s) :
    p t = p s := by
  split at h
  · exact keeps_of_next p h hu
  · exact keeps_of_next p h hv

/-! ### The commands that leave the inhibit unit whole -/

/-- A dispatched frame of another kind than INHIBIT and UNINHIBIT is nothing to the inhibit unit (R133). -/
theorem State.dispatch_inhibit (s : State) (source : Origin) {a : FrameAction} (hset : a ≠ .inhibit) (hclear : a ≠ .uninhibit) :
    (s.dispatch source a).inhibit = s.inhibit := by
  cases a with
  | inhibit => exact absurd rfl hset
  | uninhibit => exact absurd rfl hclear
  | trigger | event | setup | stop | epoch => simp [State.dispatch]

/-- The kinds that LOCAL_FRAME takes do not act on the inhibit sources (R119). -/
theorem frameAction_of_localKindArg {b argument : Byte} {k : FrameKind} {p : Profile} {a : FrameAction} (hk : localKindArg b = some k)
    (ha : frameAction k p argument = some a) : a ≠ .inhibit ∧ a ≠ .uninhibit := by
  cases k with
  | inhibit | uninhibit =>
    unfold localKindArg at hk
    split at hk <;> cases hk
  | invalid => cases ha
  | event | epoch =>
    cases ha
    exact ⟨nofun, nofun⟩
  | trigger | setup | stop =>
    obtain ⟨_, -, rfl⟩ := Option.map_eq_some_iff.1 ha
    exact ⟨nofun, nofun⟩

theorem State.localFrame_inhibit (s : State) (kind profile argument : Byte) :
    (s.localFrame kind profile argument).1.inhibit = s.inhibit :=
  State.withArg_keeps State.inhibit fun _ hk => State.withArg_keeps State.inhibit fun _ _ =>
    State.withArg_keeps State.inhibit fun _ ha =>
    have ⟨hset, hclear⟩ := frameAction_of_localKindArg hk ha
    s.dispatch_inhibit .host hset hclear

/-- A message whose action leaves the unit whole leaves it so, too. -/
theorem inhibit_of_settle {i : Instr} {act : State → State × Reply}
    (h : (.next (s.settle i act) : Host.Outcome State Fault Refusal) = .next t) (hact : (act s).1.inhibit = s.inhibit) :
    t.inhibit = s.inhibit :=
  keeps_of_next State.inhibit h (State.settle_keeps State.inhibit (fun _ _ => rfl) i hact)

/-- The commands that can write the inhibit unit: those that change its source set, INHIBIT_ON_LINK_LOSS, and the resets. -/
def writesInhibit : Instr → Bool
  | .tick | .carrierLoss | .frameReceived _ | .startMarker => true
  | .inhChange _ | .rstAsserted | .rstReleased _ _ | .selectReleased => true
  | .setTiming _ _ _ _ | .setHostInhibit _ => true
  | _ => false

/-- Every other command leaves it whole. -/
theorem exec_inhibit {c : Instr} (hc : writesInhibit c = false) (h : exec c s = .next t) : t.inhibit = s.inhibit := by
  cases c
  case tick | carrierLoss | frameReceived | startMarker | inhChange | rstAsserted | rstReleased | selectReleased | setTiming |
      setHostInhibit =>
    cases hc
  -- The events.
  case downstreamResponse | downstreamTimeout | recoveryExpiry | holdExpiry | delayExpiry | intervalExpiry | late |
      carrierPresent | lineTransition =>
    exact keeps_of_next State.inhibit h (by simp)
  case upstreamCycle addr kind cls lanes data =>
    change execUpstreamCycle addr kind cls lanes data s = _ at h
    unfold execUpstreamCycle at h
    split at h
    · exact keeps_of_next State.inhibit h rfl
    · split at h
      · cases h
      · exact keeps_of_next State.inhibit h (by simp)
  case trigEdge => exact keeps_of_ite State.inhibit h rfl (by simp)
  case selectAsserted =>
    change execSelectAsserted s = _ at h
    unfold execSelectAsserted at h
    split at h
    · exact keeps_of_next State.inhibit h rfl
    · split at h <;> exact keeps_of_next State.inhibit h rfl
  case responseSent =>
    change execResponseSent s = _ at h
    unfold execResponseSent at h
    split at h <;> exact keeps_of_next State.inhibit h (by simp)
  -- The messages with no argument.
  case checkError | badCommand | getPath | getTiming | getEpoch | getLink | getStatus | setMask | clearCauses | clearRefusal |
      resetAll =>
    exact inhibit_of_settle h rfl
  case resetDatapath => exact inhibit_of_settle h (by simp)
  case takeCompletion | takeEvent | getRefusal =>
    refine inhibit_of_settle h ?_
    split <;> rfl
  case arm groupSet =>
    exact inhibit_of_settle h (foldl_keeps State.inhibit (State.armNamed groupSet) (fun _ _ => by simp) groupIds s)
  -- The messages whose arguments are tested first.
  case getWindow | getGroup | clearMissed => exact inhibit_of_settle h (State.withArg_keeps State.inhibit fun _ _ => rfl)
  case setWindowEnable =>
    exact inhibit_of_settle h (State.withArg_keeps State.inhibit fun _ _ => State.withArg_keeps State.inhibit fun _ _ => rfl)
  case setWindow =>
    refine inhibit_of_settle h (State.withArg_keeps State.inhibit fun _ _ => State.withArg_keeps State.inhibit fun _ _ => ?_)
    split <;> rfl
  case setPath | enableGroup | disableGroup | resumeSkip =>
    refine inhibit_of_settle h (State.withArg_keeps State.inhibit fun _ _ => ?_)
    split <;> simp
  case purgeCollecting =>
    refine inhibit_of_settle h (State.withArg_keeps State.inhibit fun _ _ => ?_)
    unfold State.purgeCollecting
    split <;> simp
  case purgeAll =>
    refine inhibit_of_settle h (State.withArg_keeps State.inhibit fun _ _ => ?_)
    unfold State.purgeAll
    split <;> simp
  case resumeRetry | readEntry =>
    refine inhibit_of_settle h (State.withArg_keeps State.inhibit fun _ _ => ?_)
    split
    · split <;> simp
    · rfl
  case setGroup =>
    refine inhibit_of_settle h (State.withArg_keeps State.inhibit fun _ _ => State.withArg_keeps State.inhibit fun _ _ => ?_)
    split
    · rfl
    · split <;> simp
  case localFrameTrigger | localFrameEvent | localFrameSetup | localFrameStop | localFrameEpoch =>
    exact inhibit_of_settle h (s.localFrame_inhibit _ _ _)

/-! ### The LINK source where the source set changes -/

/-- A change of the source set leaves that set, whatever it does to the groups and the engine (R137). -/
@[simp] theorem State.changeSources_sources (s : State) (i : InhibitSet) : (s.changeSources i).inhibit.sources = i := by
  unfold State.changeSources
  dsimp only
  split
  · rfl
  · split <;> simp

/-- At an entry to DOWN and to UP the source that follows the link state is LINKLOSS, not LINK (R133, R134). -/
@[simp] theorem State.inhibitLinkDown_link (s : State) : s.inhibitLinkDown.inhibit.sources.link = s.inhibit.sources.link := by
  unfold State.inhibitLinkDown
  split <;> simp

@[simp] theorem State.inhibitLinkUp_link (s : State) : s.inhibitLinkUp.inhibit.sources.link = s.inhibit.sources.link := by
  simp [State.inhibitLinkUp]

/-- INHIBIT_ON_LINK_LOSS concerns LINKLOSS alone, too (R134). -/
@[simp] theorem State.setOnLinkLoss_link (s : State) (v : Bool) :
    (s.setOnLinkLoss v).inhibit.sources.link = s.inhibit.sources.link := by
  unfold State.setOnLinkLoss
  dsimp only
  split <;> simp

/-- The loss of carrier (R108). -/
@[simp] theorem State.takeCarrierLoss_link (s : State) : s.takeCarrierLoss.inhibit.sources.link = s.inhibit.sources.link := by
  unfold State.takeCarrierLoss
  split
  · by_cases hup : s.link.state = .up
    · simp [s.enterDown_up hup]
    · simp [s.enterDown_other hup]
  · rfl

/-- Of the expiries that a tick takes, the carrier timer's alone reaches the inhibit sources (R127). -/
theorem State.takeDueExpiries_link (s : State) : s.takeDueExpiries.inhibit.sources.link = s.inhibit.sources.link := by
  have hgroups := foldl_keeps State.inhibit State.takeGroupExpiry (fun _ _ => by simp) groupIds
  simp [State.takeDueExpiries, hgroups]

/-- A frame in ACQUIRING is not dispatched, whatever it does to the link state (R105). -/
theorem State.frameAcquiring_link (s : State) (good : Bool) :
    (s.frameAcquiring good).inhibit.sources.link = s.inhibit.sources.link := by
  unfold State.frameAcquiring
  dsimp only
  split
  · split
    · simp [State.enterUp_rise]
    · simp
  · simp

/-- A received frame is dispatched in UP alone, and there with a good check alone (R101, R105, R110). -/
theorem State.receiveFrame_link (s : State) (f : LinkFrame) (h : s.link.state = .up → f.checkGood = false) :
    (s.receiveFrame f).inhibit.sources.link = s.inhibit.sources.link := by
  cases hframe : s.link.inFrame with
  | false => rw [State.receiveFrame_none f hframe]
  | true =>
    rw [s.receiveFrame_inFrame f hframe]
    cases hst : s.frameOver.link.state with
    | down =>
      rw [State.settleFrame_down _ f hst]
      rfl
    | acquiring =>
      rw [State.settleFrame_acquiring _ f hst, State.frameAcquiring_link]
      rfl
    | up =>
      rw [State.settleFrame_bad _ f hst (h hst)]
      simp [State.frameOver]

/-! ### The writers of the LINK source -/

/-- The commands that can write the LINK source (R133, R141, R172). -/
def writesLinkSource (s : State) : Instr → Bool
  | .frameReceived _ => s.link.state = .up
  | .rstAsserted => true
  | .selectReleased => s.mgmt.pendingReset
  | _ => false

/-- The LINK source, as a part of the state to be kept. -/
def State.linkSource (s : State) : Bool := s.inhibit.sources.link

/-- Every other command keeps it. -/
theorem exec_linkSource {c : Instr} (hc : writesLinkSource s c = false) (h : exec c s = .next t) : t.linkSource = s.linkSource := by
  cases hi : writesInhibit c with
  | false => exact congrArg (·.sources.link) (exec_inhibit hi h)
  | true =>
    cases c
    case rstAsserted => cases hc
    -- The tick and the timing line.
    case tick => exact keeps_of_ite State.linkSource h rfl (by simp [State.linkSource, State.takeDueExpiries_link])
    case carrierLoss => exact keeps_of_next State.linkSource h s.takeCarrierLoss_link
    case frameReceived f =>
      have hup : s.link.state ≠ .up := of_decide_eq_false hc
      exact keeps_of_next State.linkSource h (s.receiveFrame_link f fun hst => absurd hst hup)
    case startMarker => exact keeps_of_ite State.linkSource h (s.receiveFrame_link .truncated fun _ => rfl) rfl
    -- The pins, and a release of select with no RESET_ALL pending.
    case inhChange => exact keeps_of_ite State.linkSource h rfl (by simp [State.linkSource])
    case rstReleased => exact keeps_of_ite State.linkSource h rfl rfl
    case selectReleased =>
      change execSelectReleased s = _ at h
      rw [execSelectReleased, if_neg (show ¬ s.mgmt.pendingReset = true from Bool.eq_false_iff.1 hc)] at h
      exact keeps_of_next State.linkSource h rfl
    -- The messages.
    case setTiming =>
      refine keeps_of_next State.linkSource h (State.settle_keeps State.linkSource (fun _ _ => rfl) _ ?_)
      exact State.withArg_keeps State.linkSource fun _ _ => State.withArg_keeps State.linkSource fun _ _ =>
        State.withArg_keeps State.linkSource fun _ _ => State.withArg_keeps State.linkSource fun _ _ => by simp [State.linkSource]
    case setHostInhibit =>
      refine keeps_of_next State.linkSource h (State.settle_keeps State.linkSource (fun _ _ => rfl) _ ?_)
      exact State.withArg_keeps State.linkSource fun _ _ => by simp [State.linkSource]
    all_goals cases hi

/-- Settles O19: every other command keeps the LINK source. -/
theorem linkSourceIsTheLinesAlone : Obligations.LinkSourceIsTheLinesAlone := by
  intro c s t h hne
  have hc : writesLinkSource s c = true := Bool.of_not_eq_false fun hc => hne (exec_linkSource hc h)
  cases c
  case frameReceived f => exact .inl ⟨f, rfl, of_decide_eq_true hc⟩
  case rstAsserted => exact .inr (.inl rfl)
  case selectReleased => exact .inr (.inr ⟨rfl, hc⟩)
  all_goals cases hc

end Sys2Proof.Machine
end

section
/-! PROOFS. The TAKE commands, the cause set with its mask and IRQ, and the refusal record (Chapter 8). -/

namespace Sys2Proof.Machine

open Sys2Proof.Claims

/-! ### The layouts of records -/

theorem cycleKindCode_eq (k : CycleKind) : cycleKindCode k = code [.read, .write] k := by cases k <;> rfl

theorem refusalReasonCode_eq (r : RefusalReason) : r.code = code reasons r := by cases r <;> rfl

/-- A completion record with the count of records (R179). -/
theorem Completion.bytes_eq (c : Completion) (count : Nat) : c.bytes count = completionBytes c count := by
  have horigin : Trigger.bytes = originBytes := funext Trigger.bytes_eq
  have hstamp : Stamp.bytes = stampBytes := funext Stamp.bytes_eq
  have hword : split4 = fun a : Addr => big 4 a.toNat := funext split4_eq
  simp only [Completion.bytes, completionBytes, presence_eq, split2_eq, bytesOf_eq, optBytes_eq, outcomeCode_eq, horigin, hstamp,
    hword]
  rfl

/-- An event record with the count of records (R179). -/
theorem EventRecord.bytes_eq (e : EventRecord) (count : Nat) : e.bytes count = eventBytes e count := by
  rw [EventRecord.bytes, eventBytes, originCode_eq, Stamp.bytes_eq]
  rfl

/-- A captured refusal record: an absent window is a zero byte (R158, R179). -/
theorem RefusalRecord.bytes_eq (r : RefusalRecord) : r.bytes = refusalBytes r := by
  have hwindow : optByte indexByte r.window = [num ((r.window.map Fin.val).getD 0)] := by cases r.window <;> rfl
  rw [RefusalRecord.bytes, refusalBytes, presence_eq, split4_eq, cycleKindCode_eq, cycleClassCode_eq, laneMask_eq,
    refusalReasonCode_eq, hwindow]
  simp only [List.append_assoc]
  rfl

/-! ### TAKE -/

/-- The head of one queue is removed, and the other queue is kept (R157). -/
theorem Report.removeHead_eq (r : Report) (q : TakeQueue) :
    r.removeHead q =
      { r with
        completions := if q = .completions then r.completions.tail else r.completions
        events := if q = .events then r.events.tail else r.events } := by
  cases q <;> rfl

/-- The end of a response to a TAKE removes the head of its queue (R157, R164). -/
theorem exec_responseSent_take {s : State} {q : TakeQueue} (hp : s.mgmt.phase = .response) (hq : s.mgmt.pendingTake = some q) :
    exec .responseSent s = .next { s with
      report := s.report.removeHead q
      mgmt := { s.mgmt with phase := .trailing, bitsIn := [], response := none, sent := 0, pendingTake := none } } := by
  show execResponseSent s = _
  simp only [execResponseSent, hp, State.completeTake, hq]

/-- The release of select with no RESET_ALL pending ends the transaction and does nothing else (R169). -/
theorem exec_selectReleased_noReset {s : State} (hr : s.mgmt.pendingReset = false) :
    exec .selectReleased s = .next s.endTransaction := by
  show execSelectReleased s = _
  rw [execSelectReleased, hr, if_neg Bool.false_ne_true]

/-- Settles O46: a TAKE marks the queue whose head it read, and the end of the response alone removes that head. -/
theorem takesRemoveTheHeadWhenSent : Obligations.TakesRemoveTheHeadWhenSent := by
  intro s
  refine ⟨fun hc hnone => ?_, fun hc hnone => ?_, fun c cs hc hsome => ?_, fun e es hc hsome => ?_,
    fun q hp hq => ⟨?_, fun hr => ?_⟩⟩
  · exact answers_of_settle hc rfl (by rw [hnone]; rfl)
  · exact answers_of_settle hc rfl (by rw [hnone]; rfl)
  · rw [← Completion.bytes_eq]
    exact answers_of_settle hc rfl (by rw [hsome]; rfl)
  · rw [← EventRecord.bytes_eq]
    exact answers_of_settle hc rfl (by rw [hsome]; rfl)
  · rw [exec_responseSent_take hp hq, Report.removeHead_eq]
  · exact ⟨s.endTransaction, exec_selectReleased_noReset hr, s.endTransaction_report⟩

/-! ### Causes and the mask -/

/-- Two sets have a member in common exactly where their intersection is not empty. -/
theorem and_ne_zero_iff {w : Nat} (x y : BitVec w) : x &&& y ≠ 0 ↔ ∃ n < w, x.getLsbD n = true ∧ y.getLsbD n = true := by
  rw [Ne, BitVec.eq_of_getLsbD_eq_iff]
  simp

/-- IRQ stands where RST is released and a pending cause is in the mask (R152). -/
theorem State.irq_iff (s : State) :
    s.irq = true ↔ s.pins.rst = false ∧ ∃ n < 16, s.report.causes.getLsbD n = true ∧ s.report.mask.getLsbD n = true := by
  rw [← and_ne_zero_iff, and_comm]
  simp [State.irq]

/-- Settles O57: both commands write one field of the report, and both resets give the report its reset value. -/
theorem maskAndCausesAreWritten : Obligations.MaskAndCausesAreWritten := by
  intro s
  refine ⟨fun set hc => ⟨answers_of_settle hc rfl rfl, ?_⟩, s.irq_iff, fun c t hreset h => ?_⟩
  · rw [← split2_eq]
    exact answers_of_settle hc rfl rfl
  · rcases hreset with rfl | ⟨rfl, hp⟩
    · obtain rfl := Host.Outcome.next.inj ((pinResetsSetEveryBlock s).1.symm.trans h)
      rfl
    · obtain rfl := Host.Outcome.next.inj (((resetAllTakesEffectAtTheRelease s).2 hp).symm.trans h)
      rfl

/-! ### The refusal record -/

/-- A refusal that meets an empty record is captured with further no (R15, R159). -/
theorem refused_captures {s : State} (c : UCycle) (reason : RefusalReason) (w : Option WindowId) (h : s.report.refusal = none) :
    (refused s c reason w).report.refusal = some ⟨⟨word c, c.kind, c.cls, c.lanes⟩, reason, w, false⟩ := by
  simp only [refused, recorded, h]

/-- Settles O58: the record is read as it stands, and the one that CLEAR_REFUSAL leaves is empty for the next refusal. -/
theorem refusalRecordIsReadAndEmptied : Obligations.RefusalRecordIsReadAndEmptied := by
  intro s hc
  have hclear : answers s .clearRefusal { s with report := { s.report with refusal := none } } .done [] :=
    answers_of_settle hc rfl rfl
  refine ⟨fun hnone => ?_, fun r hsome => ?_, hclear, fun t c reason w h ha hr => ?_⟩
  · exact answers_of_settle hc rfl (by rw [hnone]; rfl)
  · rw [← RefusalRecord.bytes_eq]
    exact answers_of_settle hc rfl (by rw [hsome]; rfl)
  · have hempty : t.report.refusal = none := by
      obtain rfl := Host.Outcome.next.inj (hclear.symm.trans h)
      rfl
    exact ⟨_, refusedAndEmptyCyclesAreAnsweredAtOnce.1 t c reason w ha hr, refused_captures c reason w hempty⟩

end Sys2Proof.Machine
end

section
/-! PROOFS. The command messages of the catalogue: a command and its bytes determine each other (R165, R166, R176, 9.4). -/

namespace Sys2Proof

open Sys2Proof.Machine

/-! ### Values of several bytes -/

theorem byteAt_eq_iff {w : Nat} (x : BitVec w) (k : Nat) (b : Byte) : byteAt x k = b ↔ x.toNat / 256 ^ k % 256 = b.toNat := by
  rw [← BitVec.toNat_inj, byteAt, BitVec.extractLsb'_toNat, Nat.shiftRight_eq_div_pow, Nat.pow_mul]

theorem join2_toNat (b1 b0 : Byte) : (join2 b1 b0).toNat = b1.toNat * 256 + b0.toNat := toNat_append_eq b1 b0

theorem join3_toNat (b2 b1 b0 : Byte) : (join3 b2 b1 b0).toNat = (b2.toNat * 256 + b1.toNat) * 256 + b0.toNat := by
  simp only [join3, toNat_append_eq, Nat.reducePow]

theorem join4_toNat (b3 b2 b1 b0 : Byte) :
    (join4 b3 b2 b1 b0).toNat = ((b3.toNat * 256 + b2.toNat) * 256 + b1.toNat) * 256 + b0.toNat := by
  simp only [join4, toNat_append_eq, Nat.reducePow]

@[simp] theorem split2_join2 (b1 b0 : Byte) : split2 (join2 b1 b0) = [b1, b0] := by
  simp only [split2, List.cons.injEq, byteAt_eq_iff, join2_toNat, and_true]
  omega

@[simp] theorem split3_join3 (b2 b1 b0 : Byte) : split3 (join3 b2 b1 b0) = [b2, b1, b0] := by
  simp only [split3, List.cons.injEq, byteAt_eq_iff, join3_toNat, and_true]
  omega

@[simp] theorem split4_join4 (b3 b2 b1 b0 : Byte) : split4 (join4 b3 b2 b1 b0) = [b3, b2, b1, b0] := by
  simp only [split4, List.cons.injEq, byteAt_eq_iff, join4_toNat, and_true]
  omega

theorem byteAt_toNat {w : Nat} (x : BitVec w) (k : Nat) : (byteAt x k).toNat = x.toNat / 256 ^ k % 256 :=
  ((byteAt_eq_iff x k _).1 rfl).symm

@[simp] theorem join2_byteAt (x : BitVec 16) : join2 (byteAt x 1) (byteAt x 0) = x := by
  apply BitVec.eq_of_toNat_eq
  rw [join2_toNat, byteAt_toNat, byteAt_toNat]
  omega

@[simp] theorem join3_byteAt (x : BitVec 24) : join3 (byteAt x 2) (byteAt x 1) (byteAt x 0) = x := by
  apply BitVec.eq_of_toNat_eq
  rw [join3_toNat, byteAt_toNat, byteAt_toNat, byteAt_toNat]
  omega

@[simp] theorem join4_byteAt (x : BitVec 32) : join4 (byteAt x 3) (byteAt x 2) (byteAt x 1) (byteAt x 0) = x := by
  apply BitVec.eq_of_toNat_eq
  rw [join4_toNat, byteAt_toNat, byteAt_toNat, byteAt_toNat, byteAt_toNat]
  omega

/-! ### Argument bytes -/

variable {id : Byte} {args : List Byte} {i : Instr}

theorem ofOne_some {f : Byte → Instr} (h : ofOne f args = some i) : ∃ a, args = [a] ∧ i = f a := by
  unfold ofOne at h
  split at h <;> cases h
  exact ⟨_, rfl, rfl⟩

theorem ofTwo_some {f : Byte → Byte → Instr} (h : ofTwo f args = some i) : ∃ a b, args = [a, b] ∧ i = f a b := by
  unfold ofTwo at h
  split at h <;> cases h
  exact ⟨_, _, rfl, rfl⟩

theorem ofThree_some {f : Byte → Byte → Byte → Instr} (h : ofThree f args = some i) :
    ∃ a b c, args = [a, b, c] ∧ i = f a b c := by
  unfold ofThree at h
  split at h <;> cases h
  exact ⟨_, _, _, rfl, rfl⟩

theorem ofFour_some {f : Byte → Byte → Byte → Byte → Instr} (h : ofFour f args = some i) :
    ∃ a b c d, args = [a, b, c, d] ∧ i = f a b c d := by
  unfold ofFour at h
  split at h <;> cases h
  exact ⟨_, _, _, _, rfl, rfl⟩

/-- A row of the table that is a command of the catalogue: these are its identifier and its argument bytes, and it is well formed. -/
def Instr.Spelt (i : Instr) (id : Byte) (args : List Byte) : Prop := i.wire = some (id, args) ∧ i.wf = true

theorem ofSetWindow_spelt (h : ofSetWindow args = some i) : i.Spelt 0x10#8 args := by
  unfold ofSetWindow at h
  split at h <;> cases h
  exact ⟨by simp [Instr.wire], rfl⟩

theorem ofSetPath_spelt (h : ofSetPath args = some i) : i.Spelt 0x13#8 args := by
  unfold ofSetPath at h
  split at h <;> cases h
  exact ⟨by simp [Instr.wire], rfl⟩

theorem ofSetGroup_spelt (h : ofSetGroup args = some i) : i.Spelt 0x20#8 args := by
  unfold ofSetGroup at h
  split at h <;> cases h
  exact ⟨by simp [Instr.wire], rfl⟩

theorem ofPurge_spelt (group scope : Byte) : (ofPurge group scope).Spelt 0x26#8 [group, scope] := by
  unfold ofPurge
  split
  · next hall => exact ⟨by rw [hall]; rfl, rfl⟩
  · next hother => exact ⟨rfl, bne_iff_ne.2 hother⟩

theorem ofResume_spelt (group choice : Byte) : (ofResume group choice).Spelt 0x27#8 [group, choice] := by
  unfold ofResume
  split
  · next hskip => exact ⟨by rw [hskip]; rfl, rfl⟩
  · next hother => exact ⟨rfl, bne_iff_ne.2 hother⟩

/-- A byte is the number it holds. -/
theorem byte_eq_of_toNat {n : Nat} (h : id.toNat = n) : id = BitVec.ofNat 8 n := by rw [← h, BitVec.ofNat_toNat, BitVec.setWidth_eq]

theorem ofLocalFrame_spelt (kind profile argument : Byte) :
    (ofLocalFrame kind profile argument).Spelt 0x32#8 [kind, profile, argument] := by
  unfold ofLocalFrame
  split
  case h_1 hk | h_2 hk | h_3 hk | h_4 hk => rw [byte_eq_of_toNat hk]; exact ⟨rfl, rfl⟩
  case h_5 h1 h4 h5 h6 =>
    refine ⟨rfl, ?_⟩
    simp only [Instr.wf, Bool.and_eq_true, bne_iff_ne]
    exact ⟨⟨⟨fun h => h1 (by rw [h]; rfl), fun h => h4 (by rw [h]; rfl)⟩, fun h => h5 (by rw [h]; rfl)⟩,
      fun h => h6 (by rw [h]; rfl)⟩

/-- A command read from an identifier and argument bytes is spelt by them. -/
theorem Instr.spelt_of_ofArgs (h : Instr.ofArgs id args = some i) : i.Spelt id args := by
  unfold Instr.ofArgs at h
  split at h
  case h_30 => cases h
  all_goals
    rename_i hid
    rw [byte_eq_of_toNat hid]
  case h_1 => exact ofSetWindow_spelt h
  case h_4 => exact ofSetPath_spelt h
  case h_6 => exact ofSetGroup_spelt h
  -- The commands without an argument.
  case h_5 | h_16 | h_19 | h_20 | h_21 | h_24 | h_25 | h_26 | h_27 | h_28 | h_29 =>
    obtain ⟨rfl, hi⟩ := Option.ite_none_right_eq_some.1 h
    cases hi
    exact ⟨rfl, rfl⟩
  -- The commands of one to four bytes that each stand for themselves.
  case h_3 | h_7 | h_8 | h_9 | h_10 | h_11 | h_18 =>
    obtain ⟨a, rfl, rfl⟩ := ofOne_some h
    exact ⟨rfl, rfl⟩
  case h_2 =>
    obtain ⟨a, b, rfl, rfl⟩ := ofTwo_some h
    exact ⟨rfl, rfl⟩
  case h_15 =>
    obtain ⟨a, b, c, d, rfl, rfl⟩ := ofFour_some h
    exact ⟨rfl, rfl⟩
  -- Two bytes that make one value.
  case h_22 | h_23 =>
    obtain ⟨a, b, rfl, rfl⟩ := ofTwo_some h
    exact ⟨by simp [Instr.wire], rfl⟩
  case h_14 =>
    obtain ⟨a, b, c, rfl, rfl⟩ := ofThree_some h
    exact ⟨by simp [Instr.wire], rfl⟩
  -- A byte that selects the row.
  case h_12 =>
    obtain ⟨a, b, rfl, rfl⟩ := ofTwo_some h
    exact ofPurge_spelt a b
  case h_13 =>
    obtain ⟨a, b, rfl, rfl⟩ := ofTwo_some h
    exact ofResume_spelt a b
  case h_17 =>
    obtain ⟨a, b, c, rfl, rfl⟩ := ofThree_some h
    exact ofLocalFrame_spelt a b c

/-- A kind byte that has no row of its own is the row LOCAL_FRAME_TRIGGER's (log entry 11). -/
theorem ofLocalFrame_other {kind : Byte} (h1 : kind ≠ 1#8) (h4 : kind ≠ 4#8) (h5 : kind ≠ 5#8) (h6 : kind ≠ 6#8)
    (profile argument : Byte) : ofLocalFrame kind profile argument = .localFrameTrigger kind profile argument := by
  unfold ofLocalFrame
  split
  case h_1 hk => exact absurd (byte_eq_of_toNat hk) h1
  case h_2 hk => exact absurd (byte_eq_of_toNat hk) h4
  case h_3 hk => exact absurd (byte_eq_of_toNat hk) h5
  case h_4 hk => exact absurd (byte_eq_of_toNat hk) h6
  case h_5 => rfl

/-- A command is read from the identifier and the argument bytes that spell it, which are as many as the catalogue names. -/
theorem Instr.Spelt.ofArgs (h : i.Spelt id args) : Instr.ofArgs id args = some i ∧ argLength id = some args.length := by
  obtain ⟨hwire, hwf⟩ := h
  cases i
  -- The rows that are no command of the catalogue.
  case upstreamCycle | downstreamResponse | downstreamTimeout | recoveryExpiry | holdExpiry | delayExpiry | intervalExpiry | late |
      tick | carrierPresent | carrierLoss | frameReceived | trigEdge | inhChange | rstAsserted | rstReleased | selectAsserted |
      selectReleased | responseSent | checkError | badCommand | lineTransition | startMarker =>
    cases hwire
  -- Values of several bytes.
  case setWindow | setPath | setGroup | readEntry | setMask | clearCauses =>
    cases hwire
    exact ⟨by simp [Instr.ofArgs, ofSetWindow, ofSetPath, ofSetGroup, ofTwo, ofThree, split2, split3, split4], rfl⟩
  -- A byte that selects the row.
  case purgeCollecting =>
    cases hwire
    exact ⟨congrArg some (if_neg (bne_iff_ne.1 hwf)), rfl⟩
  case resumeRetry =>
    cases hwire
    exact ⟨congrArg some (if_neg (bne_iff_ne.1 hwf)), rfl⟩
  case localFrameTrigger =>
    cases hwire
    simp only [Instr.wf, Bool.and_eq_true, bne_iff_ne] at hwf
    obtain ⟨⟨⟨h1, h4⟩, h5⟩, h6⟩ := hwf
    exact ⟨congrArg some (ofLocalFrame_other h1 h4 h5 h6 _ _), rfl⟩
  -- Bytes that each stand for themselves, or none.
  all_goals
    cases hwire
    exact ⟨rfl, rfl⟩

/-! ### Messages -/

/-- The bytes are a complete command message exactly where they are an identifier, a length byte, the arguments it names and a check
byte (R165). -/
theorem messageParts_some {msg : List Byte} {p : MessageParts} :
    messageParts msg = some p ↔ msg = p.id :: p.len :: (p.args ++ [p.check]) ∧ p.args.length = argBytes p.len := by
  constructor
  · intro h
    unfold messageParts at h
    split at h <;> [skip; cases h]
    split at h <;> [skip; cases h]
    next id len rest check hdrop =>
    cases h
    have hlength := congrArg List.length hdrop
    simp only [List.length_drop, List.length_singleton] at hlength
    refine ⟨?_, by simp; omega⟩
    rw [← hdrop, List.take_append_drop]
  · rintro ⟨rfl, hlength⟩
    simp [messageParts, ← hlength]

/-- The message of an identifier with its arguments has a good check, and these parts. -/
theorem messageParts_commandMessage (h : args.length ≤ 30) :
    messageParts (commandMessage id args) =
      some ⟨id, BitVec.ofNat 8 args.length, args, crcBytes (id :: BitVec.ofNat 8 args.length :: args)⟩ := by
  refine messageParts_some.2 ⟨rfl, ?_⟩
  have hlen : (BitVec.ofNat 8 args.length).toNat = args.length := by simp; omega
  rw [argBytes, hlen, if_pos h]

theorem Instr.Spelt.message (h : i.Spelt id args) : i.message = commandMessage id args := by
  obtain ⟨hwire, -⟩ := h
  unfold Instr.message
  split
  · cases hwire
  · cases hwire
  · rw [hwire]

/-- A command that is spelt is read from its own message. -/
theorem Instr.Spelt.ofMessage (h : i.Spelt id args) : Instr.ofMessage i.message = some i := by
  obtain ⟨hread, hlength⟩ := h.ofArgs
  have hle := argLength_le _ _ hlength
  have hlen : (BitVec.ofNat 8 args.length).toNat = args.length := by simp; omega
  rw [h.message, Instr.ofMessage, messageParts_commandMessage hle]
  simp [MessageParts.checkGood, MessageParts.inCatalogue, hlength, hlen, hread]

/-- A message with a bad check is the row CHECK_ERROR's (R166, test 1). -/
theorem Instr.ofMessage_checkError {msg : List Byte} (h : messageBadCheck msg = true) :
    Instr.ofMessage msg = some (.checkError msg) := by
  unfold messageBadCheck at h
  split at h
  · next hp => simp only [Instr.ofMessage, hp, h, if_true]
  · cases h

/-- A message with a good check that is no command of the catalogue is the row BAD_COMMAND's (R166, test 2). -/
theorem Instr.ofMessage_badCommand {msg : List Byte} (h : messageUnknown msg = true) :
    Instr.ofMessage msg = some (.badCommand msg) := by
  unfold messageUnknown at h
  split at h
  · next hp =>
    obtain ⟨hgood, hunknown⟩ := Bool.and_eq_true_iff.1 h
    rw [Instr.ofMessage, hp]
    simp only [hgood, hunknown, Bool.not_true, Bool.false_eq_true, if_false, if_true]
  · cases h

/-- Every well-formed row with a message is the row that its message is read as (R166, log entry 11). -/
theorem Instr.ofMessage_message (hwf : i.wf = true) (hm : i.message ≠ []) : Instr.ofMessage i.message = some i := by
  cases hwire : i.wire with
  | some parts => exact Instr.Spelt.ofMessage ⟨hwire, hwf⟩
  | none =>
    unfold Instr.message at hm
    split at hm
    · exact Instr.ofMessage_checkError hwf
    · exact Instr.ofMessage_badCommand hwf
    · rw [hwire] at hm
      exact absurd rfl hm

/-- Settles O6: the two refused rows carry the message itself, and the catalogue's commands are spelt by their bytes. -/
theorem messageReadIsTheCommandsOwn : Obligations.MessageReadIsTheCommandsOwn := by
  intro msg i h
  unfold Instr.ofMessage at h
  split at h
  · cases h
  next p hp =>
  split at h
  · next hbad =>
    cases h
    exact ⟨by simpa only [Instr.wf, messageBadCheck, hp] using hbad, rfl⟩
  next hgood =>
  split at h
  · next hunknown =>
    cases h
    exact ⟨by simpa [Instr.wf, messageUnknown, hp, hunknown] using hgood, rfl⟩
  next hknown =>
  have hspelt := Instr.spelt_of_ofArgs h
  have hlength : p.args.length = p.len.toNat := by simpa [MessageParts.inCatalogue, hspelt.ofArgs.2] using hknown
  have hcheck : crcBytes (p.id :: p.len :: p.args) = p.check := by simpa [MessageParts.checkGood] using hgood
  refine ⟨hspelt.2, ?_⟩
  rw [hspelt.message, commandMessage, ← byte_eq_of_toNat hlength.symm, hcheck, (messageParts_some.1 hp).1]
  rfl

end Sys2Proof
end

section
/-! PROOFS. The management port at its wires: a clock period by the state of the port, the bits of a message clocked in one after
another, and the ends of a transaction (R163 to R167, R169, R172; log entries 6 and 29). -/

namespace Sys2Proof.Machine

open Sys2Proof.Claims

variable {s t u : State}

/-! ### Steps -/

/-- Settles O1: the front of the queue, then the front of the clock periods, then nothing. -/
theorem stepRunsFrontCommand : Obligations.StepRunsFrontCommand := by
  refine ⟨fun s c rest => rfl, fun s bit rest hp => ?_, fun s hp hk => ?_⟩
  · simp only [step, hp, State.takeClock]
  · simp only [step, hp, State.takeClock, hk]

/-- Two rows of steps, one after the other. -/
theorem stepsTo_add {m n : Nat} (hm : stepsTo m s t) (hn : stepsTo n t u) : stepsTo (m + n) s u := by
  induction m generalizing s with
  | zero =>
    cases hm
    rwa [Nat.zero_add]
  | succ m ih =>
    obtain ⟨v, hv, hrest⟩ := hm
    rw [Nat.succ_add]
    exact ⟨v, hv, ih hrest⟩

/-! ### What the port sends -/

theorem statusCode_eq (c : Status) : c.code = code [.done, .empty, .badCommand, .badArgument, .wrongState, .checkError] c := by
  cases c <;> rfl

/-- The bytes of a response, in the statements' words (R167, R175). -/
theorem Reply.message_eq (r : Reply) : r.message = responseMessage r := by
  rw [Reply.message, responseMessage, statusCode_eq]
  rfl

theorem Mgmt.responseBytes_some {m : Mgmt} {r : Reply} (h : m.response = some r) : m.responseBytes = responseMessage r := by
  rw [Mgmt.responseBytes, h]
  exact r.message_eq

/-- Data out is undriven outside a transaction (R163, R172). -/
theorem State.dataOut_none (h : sends s none) : s.dataOut = none := by
  unfold State.dataOut
  split
  · next hs =>
    rcases h with h | h
    · exact absurd (hs.symm.trans h) (by decide)
    · simp only [Mgmt.byteSent, h, Option.map_none]
  · rfl

/-- Data out carries the bits of the byte of the port's state (R163, R164). -/
theorem State.dataOut_some {b : Byte} (h : sends s (some b)) : s.dataOut = some (b.getMsbD s.mgmt.bitsIn.length) := by
  obtain ⟨hs, ⟨hp, rfl⟩ | ⟨hp, r, hr, hb⟩⟩ := h
  · rcases hp with hp | hp <;> simp only [State.dataOut, hs, if_true, Mgmt.byteSent, hp, Option.map_some] <;> rfl
  · simp only [State.dataOut, hs, if_true, Mgmt.byteSent, hp, Mgmt.responseBytes_some hr, hb, Option.map_some, Option.getD_some]

/-! ### A clock period -/

@[simp] theorem wireBits_nil : wireBits [] = [] := rfl

@[simp] theorem wireBits_cons (b : Byte) (bytes : List Byte) : wireBits (b :: bytes) = byteBits b ++ wireBits bytes := rfl

@[simp] theorem wireBits_append (bytes more : List Byte) : wireBits (bytes ++ more) = wireBits bytes ++ wireBits more :=
  List.flatMap_append

/-- The eighth bit of a byte group completes its byte. -/
theorem State.clockPeriod_completes {bit : Bool} {b : Byte} (h : completes s bit b) (hp : s.mgmt.phase ≠ .idle) :
    s.clockPeriod bit = s.byteDone b := by
  obtain ⟨hs, hbits⟩ := h
  rw [s.clockPeriod_live bit hs hp, s.bitReceived_byte bit b (by simpa using hbits)]

/-- The byte that completes a message executes the command that the message is read as (R166). -/
theorem State.byteDone_read {b : Byte} {i : Instr} (hc : inCommand s) (h : Instr.ofMessage (s.mgmt.command ++ [b]) = some i) :
    s.byteDone b = exec i s := by
  simp only [State.byteDone, hc, State.commandByte, h]

/-- A byte that completes no message is stored (R164, R165). -/
theorem State.byteDone_stored {b : Byte} (hc : inCommand s) (h : Instr.ofMessage (s.mgmt.command ++ [b]) = none) :
    s.byteDone b = .next (s.storeByte b) := by
  simp only [State.byteDone, hc, State.commandByte, h]

/-- A byte group in RESPONSE counts a byte as sent, or ends the response with its last byte (R164, R167). -/
theorem State.byteDone_sent (b : Byte) (hp : s.mgmt.phase = .response) :
    s.byteDone b = if s.mgmt.sent + 1 < s.mgmt.responseBytes.length then .next s.countSent else exec .responseSent s := by
  simp only [State.byteDone, hp, State.responseByte]

/-- A byte group in TRAILING is dropped (R164). -/
theorem State.byteDone_trailing (b : Byte) (hp : s.mgmt.phase = .trailing) : s.byteDone b = .next s.endGroup := by
  simp only [State.byteDone, hp]

/-! ### The ends of a transaction -/

/-- The end of a response, with no TAKE pending, takes the port to TRAILING (R164). -/
theorem exec_responseSent_plain (hp : s.mgmt.phase = .response) (hq : s.mgmt.pendingTake = none) :
    exec .responseSent s =
      .next { s with mgmt := { s.mgmt with phase := .trailing, bitsIn := [], response := none, sent := 0 } } := by
  show execResponseSent s = _
  simp only [execResponseSent, hp, State.completeTake, hq]

/-- Select begins a transaction out of reset, and under RST moves its level alone (R164, R172, log entry 6). -/
theorem exec_selectAsserted (hs : s.mgmt.select = false) :
    exec .selectAsserted s =
      if s.pins.rst = true then .next { s with mgmt := { s.mgmt with select := true } }
      else .next { s with mgmt := s.mgmt.begin } := by
  show execSelectAsserted s = _
  rw [execSelectAsserted, hs, if_neg Bool.false_ne_true]

/-- Settles O45: each clause is one row of the table, or one clock period in one state of the port. -/
theorem transactionsBeginAndEnd : Obligations.TransactionsBeginAndEnd := by
  intro s
  refine ⟨fun hs hr => ?begins, fun hs hr => ?underReset, exec_responseSent_plain, exec_selectReleased_noReset,
    fun msg hc => ⟨answers_of_settle hc rfl rfl, answers_of_settle hc rfl rfl⟩,
    fun h => ⟨State.dataOut_none h, fun bit => s.clockPeriod_idle bit h⟩, fun b => State.dataOut_some,
    fun hs hp hl bit => ?bit, fun bit b h hc => ⟨fun i hi => ?read, fun hn => ?stored⟩,
    fun bit b r h hp hr => ⟨fun hl => ?sent, fun hl => ?last⟩, fun bit b h hp => ?trailing⟩
  case begins => rw [exec_selectAsserted hs, hr, if_neg Bool.false_ne_true]; rfl
  case underReset => rw [exec_selectAsserted hs, hr, if_pos rfl]
  case bit => rw [s.clockPeriod_live bit hs hp, s.bitReceived_kept bit hl]
  case read => rw [State.clockPeriod_completes h (by rw [hc]; nofun), State.byteDone_read hc hi]
  case stored => rw [State.clockPeriod_completes h (by rw [hc]; nofun), State.byteDone_stored hc hn]; rfl
  case sent =>
    rw [State.clockPeriod_completes h (by rw [hp]; nofun), State.byteDone_sent b hp, Mgmt.responseBytes_some hr, if_pos hl]
    rfl
  case last =>
    rw [State.clockPeriod_completes h (by rw [hp]; nofun), State.byteDone_sent b hp, Mgmt.responseBytes_some hr,
      if_neg (Nat.not_lt.2 hl.ge)]
  case trailing => rw [State.clockPeriod_completes h (by rw [hp]; nofun), State.byteDone_trailing b hp]; rfl

/-! ### A message clocked in -/

/-- A message that is read is read from no part of it alone (R165). -/
theorem ofMessage_part {msg part : List Byte} {i : Instr} (h : Instr.ofMessage msg = some i) (hpart : part <+: msg)
    (hlt : part.length < msg.length) : Instr.ofMessage part = none := by
  have hsome : (messageParts msg).isSome = true := by rw [← Instr.ofMessage_isSome, h]; rfl
  obtain ⟨p, hp⟩ := Option.isSome_iff_exists.1 hsome
  rw [← Option.not_isSome_iff_eq_none, Instr.ofMessage_isSome]
  intro hq
  obtain ⟨q, hq⟩ := Option.isSome_iff_exists.1 hq
  obtain ⟨rfl, hplen⟩ := messageParts_some.1 hp
  obtain ⟨rfl, hqlen⟩ := messageParts_some.1 hq
  obtain ⟨-, hrest⟩ := List.cons_prefix_cons.1 hpart
  obtain ⟨hlen, -⟩ := List.cons_prefix_cons.1 hrest
  simp [hplen, hqlen, hlen] at hlt

/-- The state with these command bytes and bits received, and these clock periods to come. -/
def State.received (s : State) (bytes : List Byte) (bits clocks : List Bool) : State :=
  { s with mgmt := { s.mgmt with command := bytes, bitsIn := bits }, clocks := clocks }

theorem State.received_start {clocks : List Bool} (hm : s.mgmt.command = []) (hb : s.mgmt.bitsIn = []) :
    s.received [] [] clocks = { s with clocks := clocks } := by
  rw [State.received, ← hm, ← hb]

/-- The port waits for the bits of a message, and no command waits. -/
structure State.Listens (s : State) : Prop where
  noCommand : s.pending = []
  select : s.mgmt.select = true
  command : inCommand s

namespace State.Listens

variable {bytes : List Byte} {bits rest : List Bool}

/-- A step takes the next clock period. -/
theorem step_clock (h : s.Listens) (bit : Bool) :
    step (s.received bytes bits (bit :: rest)) = (s.received bytes bits rest).clockPeriod bit :=
  stepRunsFrontCommand.2.1 (s.received bytes bits rest) bit rest h.noCommand

theorem live (h : s.Listens) : (s.received bytes bits rest).mgmt.phase ≠ .idle := by
  rw [show (s.received bytes bits rest).mgmt.phase = .command from h.command]
  nofun

/-- Bits that complete no byte group are kept. -/
theorem stepsTo_bits (h : s.Listens) (more : List Bool) (hl : bits.length + more.length < 8) :
    stepsTo more.length (s.received bytes bits (more ++ rest)) (s.received bytes (bits ++ more) rest) := by
  induction more generalizing bits with
  | nil =>
    rw [List.append_nil]
    exact rfl
  | cons bit more ih =>
    simp only [List.length_cons] at hl
    have hkept : (s.received bytes bits (more ++ rest)).clockPeriod bit = .next (s.received bytes (bits ++ [bit]) (more ++ rest)) :=
      ((s.received bytes bits (more ++ rest)).clockPeriod_live bit h.select h.live).trans
        (State.bitReceived_kept _ bit (show bits.length < 7 by omega))
    refine ⟨_, (h.step_clock bit).trans hkept, ?_⟩
    have hmore := ih (bits := bits ++ [bit]) (by simp only [List.length_append, List.length_singleton]; omega)
    rwa [List.append_assoc, List.singleton_append] at hmore

/-- The first seven bits of a byte. -/
theorem stepsTo_sevenBits (h : s.Listens) (b : Byte) :
    stepsTo 7 (s.received bytes [] ((byteBits b).dropLast ++ rest)) (s.received bytes (byteBits b).dropLast rest) :=
  h.stepsTo_bits (byteBits b).dropLast (show 0 + 7 < 8 by decide)

/-- The last bit of a byte completes it. -/
theorem step_lastBit (h : s.Listens) (b : Byte) :
    step (s.received bytes (byteBits b).dropLast (b.getMsbD 7 :: rest)) =
      (s.received bytes (byteBits b).dropLast rest).byteDone b :=
  (h.step_clock _).trans (State.clockPeriod_completes ⟨h.select, rfl⟩ h.live)

/-- The bits of a byte that completes no message store it. -/
theorem stepsTo_byte (h : s.Listens) {b : Byte} (hn : Instr.ofMessage (bytes ++ [b]) = none) :
    stepsTo 8 (s.received bytes [] (byteBits b ++ rest)) (s.received (bytes ++ [b]) [] rest) :=
  stepsTo_add (m := 7) (n := 1) (h.stepsTo_sevenBits (rest := b.getMsbD 7 :: rest) b)
    ⟨_, (h.step_lastBit b).trans (State.byteDone_stored h.command hn), rfl⟩

/-- The bits of bytes that complete no message store them. -/
theorem stepsTo_bytes (h : s.Listens) (more : List Byte)
    (hn : ∀ part, part <+: more → Instr.ofMessage (bytes ++ part) = none) :
    stepsTo (8 * more.length) (s.received bytes [] (wireBits more ++ rest)) (s.received (bytes ++ more) [] rest) := by
  induction more generalizing bytes with
  | nil =>
    rw [List.append_nil]
    exact rfl
  | cons b more ih =>
    have hfirst := h.stepsTo_byte (rest := wireBits more ++ rest) (hn [b] (by simp))
    have hmore := ih (bytes := bytes ++ [b]) fun part hpart => by
      rw [List.append_assoc]
      exact hn _ (List.cons_prefix_cons.2 ⟨rfl, hpart⟩)
    rw [List.append_assoc, List.singleton_append] at hmore
    rw [wireBits_cons, List.append_assoc, List.length_cons, Nat.mul_succ, Nat.add_comm]
    exact stepsTo_add hfirst hmore

end State.Listens

/-- Settles O5: a row's bytes are read as the row, and until the last bit no part of them is. -/
theorem messageOfCommandIsReadBack : Obligations.MessageOfCommandIsReadBack := by
  intro i hwf hm
  have hread := Instr.ofMessage_message hwf hm
  refine ⟨hread, fun s hp hs hc hcommand hbits => ?_⟩
  have h : s.Listens := ⟨hp, hs, hc⟩
  obtain ⟨bytes, b, hmsg⟩ : ∃ bytes b, i.message = bytes ++ [b] := ⟨_, _, (List.dropLast_append_getLast hm).symm⟩
  rw [hmsg] at hread ⊢
  have hopen : ∀ part, part <+: bytes → Instr.ofMessage ([] ++ part) = none := fun part hpart =>
    ofMessage_part hread (hpart.trans ⟨[b], rfl⟩) (by simpa using Nat.lt_succ_of_le hpart.length_le)
  refine ⟨s.received bytes (byteBits b).dropLast [b.getMsbD 7], b.getMsbD 7, ?_, ?_, ?_⟩
  · have hsteps := stepsTo_add (h.stepsTo_bytes (rest := (byteBits b).dropLast ++ [b.getMsbD 7]) bytes hopen) (h.stepsTo_sevenBits b)
    rw [State.received_start hcommand hbits] at hsteps
    rw [wireBits_append, List.length_append]
    exact hsteps
  · rw [List.dropLast_concat]
    rfl
  · exact (h.step_lastBit b).trans (State.byteDone_read h.command hread)

end Sys2Proof.Machine
end

section
/-! PROOFS. Every message is settled by an action of its own, which leaves what waits and the select line, answers as many bytes as the
catalogue names, and where it refuses leaves the part as it was (R164 to R167, R175, 9.4). -/

namespace Sys2Proof.Machine

open Sys2Proof.Claims

/-! ### The lengths of results -/

@[simp] theorem bytesOf_length (k n : Nat) : (bytesOf k n).length = k := by
  rw [bytesOf_eq, big, List.length_map, List.length_range]

theorem optBytes_length {α : Type} {width : Nat} {enc : α → List Byte} (h : ∀ a, (enc a).length = width) (o : Option α) :
    (optBytes width enc o).length = width := by
  cases o with
  | none => exact List.length_replicate
  | some a => exact h a

@[simp] theorem optByte_length {α : Type} (enc : α → Byte) (o : Option α) : (optByte enc o).length = 1 :=
  optBytes_length (enc := fun a => [enc a]) (fun _ => rfl) o

@[simp] theorem Stamp.bytes_length (t : Stamp) : t.bytes.length = 7 := by simp [Stamp.bytes]

@[simp] theorem Trigger.bytes_length (t : Trigger) : t.bytes.length = 11 := by
  have hkind : t.kind.code.length = 2 := by cases t.kind <;> rfl
  simp [Trigger.bytes, hkind]

@[simp] theorem split2_length (x : BitVec 16) : (split2 x).length = 2 := rfl

@[simp] theorem split4_length (x : BitVec 32) : (split4 x).length = 4 := rfl

@[simp] theorem optWord_length (o : Option Addr) : (optBytes 4 split4 o).length = 4 := optBytes_length split4_length o

@[simp] theorem optStamp_length (o : Option Stamp) : (optBytes 7 Stamp.bytes o).length = 7 := optBytes_length Stamp.bytes_length o

@[simp] theorem optTrigger_length (o : Option Trigger) : (optBytes 11 Trigger.bytes o).length = 11 :=
  optBytes_length Trigger.bytes_length o

@[simp] theorem optRemaining_length (o : Option Nat) : (optBytes 3 (bytesOf 3) o).length = 3 := optBytes_length (bytesOf_length 3) o

theorem Window.bytes_length (w : Window) : w.bytes.length = 14 := by simp [Window.bytes]

theorem State.pathBytes_length (s : State) : s.pathBytes.length = 6 := by simp [State.pathBytes]

@[simp] theorem GroupConfig.bytes_length (c : GroupConfig) : c.bytes.length = 18 := by simp [GroupConfig.bytes]

theorem State.groupBytes_length (s : State) (g : GroupId) : (s.groupBytes g).length = 74 := by
  unfold State.groupBytes
  generalize s.groups[g] = r
  simp

theorem Entry.toBytes_length (e : Entry) : e.toBytes.length = 16 := by simp [Entry.toBytes, laneDataBytes]

theorem State.epochBytes_length (s : State) : s.epochBytes.length = 18 := by
  have hrecord : (optBytes 8 (fun e : EpochRecord => e.source.code :: e.stamp.bytes) s.time.lastEpoch).length = 8 :=
    optBytes_length (fun _ => by simp) _
  simp [State.epochBytes, hrecord]

theorem State.linkBytes_length (s : State) : s.linkBytes.length = 12 := by simp [State.linkBytes, historyBytes]

/-- A list of groups that names none twice has a place for each (R59, R176). -/
theorem groupListBytes_length {l : List GroupId} (h : l.Nodup) : (groupListBytes l).length = 9 := by
  have hle : l.length ≤ 8 := by simpa using h.length_le_card
  simp [groupListBytes, Nat.add_sub_cancel' hle]

theorem State.statusBytes_length {s : State} (h : s.listsOk) : s.statusBytes.length = 36 := by
  obtain ⟨hready, hheld, -⟩ := h
  simp [State.statusBytes, groupListBytes_length hready, groupListBytes_length hheld]

theorem Completion.bytes_length (c : Completion) (count : Nat) : (c.bytes count).length = 47 := by simp [Completion.bytes]

theorem EventRecord.bytes_length (e : EventRecord) (count : Nat) : (e.bytes count).length = 11 := by simp [EventRecord.bytes]

theorem RefusalRecord.bytes_length (r : RefusalRecord) : r.bytes.length = 11 := by simp [RefusalRecord.bytes]

/-- The number of result bytes that the catalogue gives a command answered DONE (9.4). -/
def resultLength (id : Byte) : Nat :=
  match id.toNat with
  | 0x12 => 14 | 0x14 => 6 | 0x21 => 74 | 0x24 => 1 | 0x26 => 2 | 0x28 => 16 | 0x31 => 4 | 0x34 => 18 | 0x35 => 12
  | 0x40 => 36 | 0x42 => 2 | 0x43 => 47 | 0x44 => 11 | 0x45 => 11 | _ => 0

/-! ### What an action makes and answers -/

/-- What waits, and the level of select. -/
def State.outside (s : State) : List Instr × List Bool × Bool := (s.pending, s.clocks, s.mgmt.select)

/-- What a message's action makes of a state, with its reply: what is outside is kept, DONE has the catalogue's results, and any other
status leaves the state as it was and has none (R166, R167). -/
structure Answered (s : State) (i : Instr) (r : State × Reply) : Prop where
  outside : r.1.outside = s.outside
  refused : r.2.status ≠ .done → r = (s, .bare r.2.status)
  results : s.listsOk → r.2.status = .done → ∃ id args, i.wire = some (id, args) ∧ r.2.results.length = resultLength id

variable {s t u : State} {i : Instr} {id : Byte} {args : List Byte}

theorem Answered.bare {status : Status} (h : status ≠ .done) : Answered s i (s, .bare status) :=
  ⟨rfl, fun _ => rfl, fun _ hd => absurd hd h⟩

theorem Answered.done {results : List Byte} (hu : u.outside = s.outside) (hw : i.wire = some (id, args))
    (hl : s.listsOk → results.length = resultLength id) : Answered s i (u, .done results) :=
  ⟨hu, fun hd => absurd rfl hd, fun hs _ => ⟨id, args, hw, hl hs⟩⟩

theorem Answered.withArg {α : Type} {arg : Option α} {act : α → State × Reply} (h : ∀ a, Answered s i (act a)) :
    Answered s i (s.withArg arg act) := by
  cases arg with
  | none => exact .bare nofun
  | some a => exact h a

theorem Answered.ite {p : Prop} [Decidable p] {r r' : State × Reply} (h : Answered s i r) (h' : Answered s i r') :
    Answered s i (if p then r else r') := by
  split
  · exact h
  · exact h'

/-- LOCAL_FRAME has no results, whatever it dispatches (R119). -/
theorem Answered.localFrame {kind profile argument : Byte} (hw : i.wire = some (0x32#8, args)) :
    Answered s i (s.localFrame kind profile argument) :=
  .withArg fun _ => .withArg fun _ => .withArg fun _ => .done (by simp [State.outside]) hw fun _ => rfl

/-- Every message is settled by an action whose answer is such. -/
theorem exec_message (hm : isMessage i) (s : State) : ∃ act, exec i s = .next (s.settle i act) ∧ Answered s i (act s) := by
  cases i
  -- The rows that are no message.
  case upstreamCycle | downstreamResponse | downstreamTimeout | recoveryExpiry | holdExpiry | delayExpiry | intervalExpiry | late |
      tick | carrierPresent | carrierLoss | frameReceived | trigEdge | inhChange | rstAsserted | rstReleased | selectAsserted |
      selectReleased | responseSent | lineTransition | startMarker =>
    obtain hw | ⟨_, hm⟩ | ⟨_, hm⟩ := hm
    · exact absurd rfl hw
    · cases hm
    · cases hm
  case checkError | badCommand => exact ⟨_, rfl, .bare nofun⟩
  -- The messages with no argument.
  case getPath => exact ⟨_, rfl, .done rfl rfl fun _ => s.pathBytes_length⟩
  case getTiming => exact ⟨_, rfl, .done rfl rfl fun _ => rfl⟩
  case getEpoch => exact ⟨_, rfl, .done rfl rfl fun _ => s.epochBytes_length⟩
  case getLink => exact ⟨_, rfl, .done rfl rfl fun _ => s.linkBytes_length⟩
  case getStatus => exact ⟨_, rfl, .done rfl rfl State.statusBytes_length⟩
  case setMask | clearCauses | clearRefusal | resetAll => exact ⟨_, rfl, .done rfl rfl fun _ => rfl⟩
  case resetDatapath => exact ⟨_, rfl, .done (by simp [State.outside]) rfl fun _ => rfl⟩
  case takeCompletion =>
    refine ⟨_, rfl, ?_⟩
    split
    · exact .bare nofun
    · exact .done rfl rfl fun _ => Completion.bytes_length _ _
  case takeEvent =>
    refine ⟨_, rfl, ?_⟩
    split
    · exact .bare nofun
    · exact .done rfl rfl fun _ => EventRecord.bytes_length _ _
  case getRefusal =>
    refine ⟨_, rfl, ?_⟩
    split
    · exact .bare nofun
    · exact .done rfl rfl fun _ => RefusalRecord.bytes_length _
  case arm groupSet =>
    exact ⟨_, rfl, .done (foldl_keeps State.outside (State.armNamed groupSet) (fun _ _ => by simp [State.outside]) groupIds s) rfl
      fun _ => rfl⟩
  -- The messages whose arguments are tested first.
  case getWindow => exact ⟨_, rfl, .withArg fun _ => .done rfl rfl fun _ => Window.bytes_length _⟩
  case getGroup => exact ⟨_, rfl, .withArg fun g => .done rfl rfl fun _ => s.groupBytes_length g⟩
  case clearMissed => exact ⟨_, rfl, .withArg fun _ => .done rfl rfl fun _ => rfl⟩
  case setHostInhibit => exact ⟨_, rfl, .withArg fun _ => .done (by simp [State.outside]) rfl fun _ => rfl⟩
  case setWindowEnable => exact ⟨_, rfl, .withArg fun _ => .withArg fun _ => .done rfl rfl fun _ => rfl⟩
  case setWindow => exact ⟨_, rfl, .withArg fun _ => .withArg fun _ => .ite (.bare nofun) (.done rfl rfl fun _ => rfl)⟩
  case setPath => exact ⟨_, rfl, .withArg fun _ => .ite (.done rfl rfl fun _ => rfl) (.bare nofun)⟩
  case setGroup =>
    exact ⟨_, rfl, .withArg fun _ => .withArg fun _ => .ite (.bare nofun)
      (.ite (.bare nofun) (.done (by simp [State.outside]) rfl fun _ => rfl))⟩
  case enableGroup | disableGroup | resumeSkip =>
    exact ⟨_, rfl, .withArg fun _ => .ite (.done (by simp [State.outside]) rfl fun _ => rfl) (.bare nofun)⟩
  case resumeRetry =>
    exact ⟨_, rfl, .withArg fun _ => .ite (.ite (.done (by simp [State.outside]) rfl fun _ => rfl) (.bare nofun)) (.bare nofun)⟩
  case purgeCollecting =>
    exact ⟨_, rfl, .withArg fun _ => .ite (.done (by simp [State.outside]) rfl fun _ => rfl) (.bare nofun)⟩
  case purgeAll =>
    exact ⟨_, rfl, .withArg fun _ => .ite (.done (by simp [State.outside]) rfl fun _ => rfl) (.bare nofun)⟩
  case readEntry =>
    refine ⟨_, rfl, .withArg fun _ => .ite ?_ (.bare nofun)⟩
    split
    · exact .done rfl rfl fun _ => Entry.toBytes_length _
    · exact .bare nofun
  case setTiming =>
    exact ⟨_, rfl, .withArg fun _ => .withArg fun _ => .withArg fun _ => .withArg fun _ =>
      .done (by simp [State.outside]) rfl fun _ => rfl⟩
  case localFrameTrigger | localFrameEvent | localFrameSetup | localFrameStop | localFrameEpoch =>
    exact ⟨_, rfl, .localFrame rfl⟩

/-! ### The statements -/

/-- Settles O17: the action's reply is the response. -/
theorem everyMessageIsAnswered : Obligations.EveryMessageIsAnswered := by
  intro i s hm hc hlists
  obtain ⟨act, hexec, hanswer⟩ := exec_message hm s
  rw [s.settle_command i act hc] at hexec
  exact ⟨_, (act s).2, hexec, rfl, rfl, rfl, rfl, rfl, Mgmt.responseBytes_some rfl,
    fun hd => congrArg (fun r => r.2.results) (hanswer.refused hd), hanswer.results hlists⟩

/-- Settles O18: outside COMMAND the action is not run, and an action that refuses leaves the state. -/
theorem unreadAndRefusedMessagesChangeNothing : Obligations.UnreadAndRefusedMessagesChangeNothing := by
  refine ⟨fun i s hm hp => ?_, fun i s t status hm hc h hr hne => ?_⟩
  · obtain ⟨act, hexec, -⟩ := exec_message hm s
    rw [hexec, s.settle_other i act hp]
  · obtain ⟨act, hexec, hanswer⟩ := exec_message hm s
    obtain rfl := Host.Outcome.next.inj (hexec.symm.trans h)
    rw [s.settle_command i act hc] at hr ⊢
    obtain rfl : (act s).2.status = status := congrArg Reply.status (Option.some.inj hr)
    rw [hanswer.refused hne]
    rfl

/-- Settles O59: the action is the data path's reset, in the statement's words. -/
theorem resetDatapathEmptiesTheDataPath : Obligations.ResetDatapathEmptiesTheDataPath := by
  intro s hc
  refine answers_of_settle hc rfl ?_
  simp only [State.resetDatapath, State.retryUpstream_eq, State.drainPort_eq]
  rfl

end Sys2Proof.Machine
end

section
/-! PROOFS. What waits is kept by every command, and the transaction is kept whole by every command, every clock period and every step
(R163 to R165, R168, R169; log entries 22 and 29). -/

namespace Sys2Proof.Machine

open Sys2Proof.Claims

variable {s t u : State} {i : Instr}

/-! ### The rows that are no message -/

/-- The management port, and what waits. -/
def State.port (s : State) : Mgmt × List Instr × List Bool := (s.mgmt, s.pending, s.clocks)

/-- The rows that begin or end a transaction or its response, without being a message. -/
def movesPort : Instr → Bool
  | .rstAsserted | .selectAsserted | .selectReleased | .responseSent => true
  | _ => false

/-- Every other row that is no message leaves the management port and what waits. -/
theorem exec_port (hm : ¬ isMessage i) (hi : movesPort i = false) (h : exec i s = .next t) : t.port = s.port := by
  cases i
  case rstAsserted | selectAsserted | selectReleased | responseSent => cases hi
  case downstreamResponse | downstreamTimeout | recoveryExpiry | holdExpiry | delayExpiry | intervalExpiry | late | carrierPresent |
      carrierLoss | frameReceived | lineTransition =>
    exact keeps_of_next State.port h (by simp [State.port])
  case upstreamCycle =>
    change execUpstreamCycle _ _ _ _ _ s = _ at h
    unfold execUpstreamCycle at h
    split at h
    · exact keeps_of_next State.port h rfl
    · split at h
      · cases h
      · exact keeps_of_next State.port h (by simp [State.port])
  case tick => exact keeps_of_ite State.port h rfl (by simp [State.port])
  case trigEdge => exact keeps_of_ite State.port h rfl (by simp [State.port])
  case inhChange => exact keeps_of_ite State.port h rfl (by simp [State.port])
  case rstReleased => exact keeps_of_ite State.port h rfl rfl
  case startMarker => exact keeps_of_ite State.port h (by simp [State.port]) rfl
  case checkError => exact absurd (.inr (.inl ⟨_, rfl⟩)) hm
  case badCommand => exact absurd (.inr (.inr ⟨_, rfl⟩)) hm
  all_goals exact absurd (.inl (Option.some_ne_none _)) hm

/-- SELECT_ASSERTED changes the port alone, to one of three values (R164, R172, log entries 5 and 6). -/
theorem exec_selectAsserted_cases (h : exec .selectAsserted s = .next t) :
    t = s ∨ s.mgmt.select = false ∧
      (t = { s with mgmt := { s.mgmt with select := true } } ∨ t = { s with mgmt := s.mgmt.begin }) := by
  by_cases hs : s.mgmt.select = true
  · exact .inl (Host.Outcome.next.inj ((if_pos hs).symm.trans h)).symm
  · rw [Bool.not_eq_true] at hs
    rw [exec_selectAsserted hs] at h
    split at h <;> cases h
    · exact .inr ⟨hs, .inl rfl⟩
    · exact .inr ⟨hs, .inr rfl⟩

/-- RESPONSE_SENT ends the response in RESPONSE, and elsewhere does nothing (R164). -/
theorem exec_responseSent_cases (h : exec .responseSent s = .next t) :
    t = s ∨ s.mgmt.phase = .response ∧ t = { s.completeTake with
      mgmt := { s.mgmt with phase := .trailing, bitsIn := [], response := none, sent := 0, pendingTake := none } } := by
  change execResponseSent s = _ at h
  unfold execResponseSent at h
  split at h <;> cases h
  · next hp => exact .inr ⟨hp, rfl⟩
  all_goals exact .inl rfl

/-- SELECT_RELEASED ends the transaction, with the reset that is pending (R169, R171). -/
theorem exec_selectReleased_cases (h : exec .selectReleased s = .next t) :
    t = s.endTransaction.resetAll ∨ t = s.endTransaction := by
  change execSelectReleased s = _ at h
  unfold execSelectReleased at h
  split at h <;> cases h
  · exact .inl rfl
  · exact .inr rfl

/-! ### What waits -/

/-- The commands and the clock periods that wait. -/
def State.waiting (s : State) : List Instr × List Bool := (s.pending, s.clocks)

/-- No command is about what waits. -/
theorem exec_waiting (h : exec i s = .next t) : t.waiting = s.waiting := by
  by_cases hm : isMessage i
  · obtain ⟨act, hexec, hanswer⟩ := exec_message hm s
    exact keeps_of_next State.waiting (hexec.symm.trans h) (State.settle_keeps State.waiting (fun _ _ => rfl) i
      (congrArg (fun o : List Instr × List Bool × Bool => (o.1, o.2.1)) hanswer.outside))
  cases hi : movesPort i with
  | false => exact congrArg Prod.snd (exec_port hm hi h)
  | true =>
    unfold movesPort at hi
    split at hi
    · cases h; rfl
    · rcases exec_selectAsserted_cases h with rfl | ⟨-, rfl | rfl⟩ <;> rfl
    · rcases exec_selectReleased_cases h with rfl | rfl <;> simp [State.waiting]
    · rcases exec_responseSent_cases h with rfl | ⟨-, rfl⟩ <;> simp [State.waiting]
    · cases hi

/-- Settles O2: a message keeps what its action keeps, and no action and no event is about what waits. -/
theorem execKeepsWaitingCommands : Obligations.ExecKeepsWaitingCommands := fun _ _ _ h => Prod.mk.inj (exec_waiting h)

/-! ### The transaction -/

/-- The transaction is the port's alone. -/
theorem State.transactionOk.of_mgmt (hs : s.transactionOk) (h : t.mgmt = s.mgmt) : t.transactionOk := by
  unfold State.transactionOk
  rw [h]
  exact hs

/-- A port with no transaction. -/
theorem State.transactionOk_of_idle {select : Bool} (h : t.mgmt = Mgmt.idleAt select) : t.transactionOk := by
  unfold State.transactionOk
  rw [h]
  exact ⟨fun _ => rfl, fun hq => absurd rfl hq, nofun, Nat.succ_pos 7, fun _ => ⟨rfl, rfl⟩, nofun, nofun, fun _ => ⟨rfl, rfl⟩⟩

theorem Reply.message_length (r : Reply) : r.message.length = r.results.length + 3 := by simp [Reply.message]

/-- A message leaves its whole response to be sent, with select asserted as it was (R164, R168). -/
theorem State.transactionOk.settle (hs : s.transactionOk) {act : State → State × Reply}
    (hact : (act s).1.mgmt.select = s.mgmt.select) : (s.settle i act).transactionOk := by
  by_cases hc : s.mgmt.phase = .command
  · obtain ⟨hselect, -⟩ := hs
    rw [s.settle_command i act hc]
    refine ⟨fun h => ?_, fun _ => rfl, fun _ => .inl rfl, Nat.succ_pos 7, nofun, nofun, fun _ => ?_, fun h => absurd rfl h⟩
    · exact absurd (hc.symm.trans (hselect (hact.symm.trans h))) nofun
    · show 0 < (act s).2.message.length
      rw [Reply.message_length]
      exact Nat.succ_pos _
  · rwa [s.settle_other i act hc]

/-- Under RST the level of select moves alone (R172). -/
theorem State.transactionOk.selected (hs : s.transactionOk) :
    ({ s with mgmt := { s.mgmt with select := true } } : State).transactionOk := by
  obtain ⟨-, hrest⟩ := hs
  exact ⟨nofun, hrest⟩

/-- A transaction begins with nothing pending (R164). -/
theorem State.transactionOk.begins (hs : s.transactionOk) (hselect : s.mgmt.select = false) :
    ({ s with mgmt := s.mgmt.begin } : State).transactionOk := by
  obtain ⟨hnone, htake, hreset, -⟩ := hs
  have hp : s.mgmt.phase = .idle := hnone hselect
  have hq : s.mgmt.pendingTake = none := by simpa [hp] using htake
  have hr : s.mgmt.pendingReset = false := by simpa [hp] using hreset
  exact ⟨nofun, fun h => absurd hq h, fun h => absurd (hr.symm.trans h) Bool.false_ne_true, Nat.succ_pos 7, nofun, fun _ => rfl,
    nofun, fun _ => ⟨rfl, rfl⟩⟩

/-- Every command keeps the transaction whole. -/
theorem State.transactionOk.exec (hs : s.transactionOk) (h : exec i s = .next t) : t.transactionOk := by
  by_cases hm : isMessage i
  · obtain ⟨act, hexec, hanswer⟩ := exec_message hm s
    obtain rfl := Host.Outcome.next.inj (hexec.symm.trans h)
    exact hs.settle (congrArg (fun o => o.2.2) hanswer.outside)
  cases hi : movesPort i with
  | false => exact hs.of_mgmt (congrArg Prod.fst (exec_port hm hi h))
  | true =>
    unfold movesPort at hi
    split at hi
    case h_5 => cases hi
    case h_1 => cases h; exact State.transactionOk_of_idle rfl
    case h_2 =>
      rcases exec_selectAsserted_cases h with rfl | ⟨hselect, ht⟩
      · exact hs
      rcases ht with rfl | rfl
      · exact hs.selected
      · exact hs.begins hselect
    case h_3 => rcases exec_selectReleased_cases h with rfl | rfl <;> exact State.transactionOk_of_idle rfl
    case h_4 =>
      rcases exec_responseSent_cases h with rfl | ⟨hp, rfl⟩
      · exact hs
      obtain ⟨hnone, -⟩ := hs
      exact ⟨fun h => absurd (hp.symm.trans (hnone h)) nofun, fun h => absurd rfl h, fun _ => .inr rfl, Nat.succ_pos 7, nofun,
        nofun, nofun, fun _ => ⟨rfl, rfl⟩⟩

/-- A byte group that is complete keeps the transaction whole: the bits are none, and a byte stored leaves the message open. -/
theorem State.transactionOk.byteDone (hs : s.transactionOk) {b : Byte} (hp : s.mgmt.phase ≠ .idle) (h : s.byteDone b = .next t) :
    t.transactionOk := by
  have hwhole := hs
  obtain ⟨hnone, htake, hreset, -, -, hopen, hsent, hother⟩ := hs
  unfold State.byteDone at h
  split at h
  case h_1 hidle => exact absurd hidle hp
  case h_2 hc =>
    unfold State.commandByte at h
    split at h
    · exact hwhole.exec h
    · next hn =>
      cases h
      exact ⟨hnone, htake, hreset, Nat.succ_pos 7, fun hidle => absurd hidle hp, fun _ => messageOpen_snoc _ b (hopen hc) hn,
        hsent, hother⟩
  case h_3 hr =>
    unfold State.responseByte at h
    split at h
    · next hl =>
      cases h
      exact ⟨hnone, htake, hreset, Nat.succ_pos 7, fun hidle => absurd hidle hp, hopen, fun _ => hl, fun ho => absurd hr ho⟩
    · exact hwhole.exec h
  case h_4 =>
    cases h
    exact ⟨hnone, htake, hreset, Nat.succ_pos 7, fun hidle => absurd hidle hp, hopen, hsent, hother⟩

/-- Every clock period keeps the transaction whole. -/
theorem State.transactionOk.clockPeriod (hs : s.transactionOk) {bit : Bool} (h : s.clockPeriod bit = .next t) : t.transactionOk := by
  by_cases hidle : s.mgmt.select = false ∨ s.mgmt.phase = .idle
  · obtain rfl := Host.Outcome.next.inj ((s.clockPeriod_idle bit hidle).symm.trans h)
    exact hs
  obtain ⟨hselect, hp⟩ := not_or.1 hidle
  rw [s.clockPeriod_live bit (by simpa using hselect) hp] at h
  unfold State.bitReceived at h
  split at h
  · next hl =>
    obtain ⟨hnone, htake, hreset, -, -, hopen, hsent, hother⟩ := hs
    cases h
    exact ⟨hnone, htake, hreset, by simpa [Config.groupBits] using hl, fun hidle => absurd hidle hp, hopen, hsent, hother⟩
  · exact hs.byteDone hp h

/-- Settles O44: a step is a command or a clock period, and what waits is no part of the transaction. -/
theorem stepsKeepTransactionsWhole : Obligations.StepsKeepTransactionsWhole := by
  intro s t hs h
  unfold step at h
  split at h
  · unfold State.takeClock at h
    split at h
    · cases h
      exact hs
    · next bit rest _ => exact State.transactionOk.clockPeriod (s := { s with clocks := rest }) hs h
  · next c rest _ => exact State.transactionOk.exec (s := { s with pending := rest }) hs h

end Sys2Proof.Machine
end

section
/-! PROOFS. The machine stops at a second upstream cycle and nowhere else (1.1.1; log entry 7). -/

namespace Sys2Proof.Machine

open Sys2Proof.Claims

/-! ### What answers a next state -/

/-- A next state is answered. -/
def answersNext (o : Host.Outcome State Fault Refusal) : Prop := ∃ t, o = .next t

theorem answersNext_next (t : State) : answersNext (.next t) := ⟨t, rfl⟩

theorem answersNext_ite {p : Prop} [Decidable p] {a b : Host.Outcome State Fault Refusal} (ha : answersNext a) (hb : answersNext b) :
    answersNext (if p then a else b) := by
  split
  · exact ha
  · exact hb

/-- RESPONSE_SENT has an answer in every state of the port (R164). -/
theorem execResponseSent_answersNext (s : State) : answersNext (execResponseSent s) := by
  by_cases hp : s.mgmt.phase = .response
  · simp only [execResponseSent, hp]
    exact answersNext_next _
  · rw [execResponseSent_none hp]
    exact answersNext_next s

/-- Every row but the upstream cycle answers a next state: a message by its settling, an event whether it can happen or not. -/
theorem exec_answersNext (c : Instr) (s : State) (hc : ∀ u, c ≠ cycle u) : answersNext (exec c s) := by
  by_cases hm : isMessage c
  · obtain ⟨act, hexec, -⟩ := exec_message hm s
    exact ⟨_, hexec⟩
  cases c
  case upstreamCycle addr kind cls lanes data => exact absurd rfl (hc ⟨addr, kind, cls, lanes, data⟩)
  -- The events that are one operation each.
  case downstreamResponse | downstreamTimeout | recoveryExpiry | holdExpiry | delayExpiry | intervalExpiry | late | carrierPresent |
      carrierLoss | frameReceived | lineTransition | rstAsserted =>
    exact answersNext_next _
  -- The events that the state of the part lets happen or not.
  case tick | trigEdge | inhChange | rstReleased | selectReleased | startMarker =>
    exact answersNext_ite (answersNext_next _) (answersNext_next _)
  case selectAsserted =>
    exact answersNext_ite (answersNext_next _) (answersNext_ite (answersNext_next _) (answersNext_next _))
  case responseSent => exact execResponseSent_answersNext s
  -- The messages.
  case checkError msg => exact absurd (.inr (.inl ⟨msg, rfl⟩)) hm
  case badCommand msg => exact absurd (.inr (.inr ⟨msg, rfl⟩)) hm
  all_goals exact absurd (.inl (Option.some_ne_none _)) hm

/-! ### The upstream cycle -/

/-- An upstream cycle is not received under RST, stops the machine while the cycle before it is unanswered, and is routed otherwise
(R1; log entries 6 and 7). -/
theorem exec_cycle_cases (u : UCycle) (s : State) :
    answersNext (exec (cycle u) s) ∨
      exec (cycle u) s = .fault .secondUpstreamCycle ∧ s.pins.rst = false ∧ (s.queue.held ≠ none ∨ s.upstream.host ≠ none) := by
  show answersNext (execUpstreamCycle u.addr u.kind u.cls u.lanes u.data s) ∨
    execUpstreamCycle u.addr u.kind u.cls u.lanes u.data s = _ ∧ _
  unfold execUpstreamCycle
  split
  case isTrue => exact .inl (answersNext_next s)
  case isFalse hr =>
    split
    case isTrue hb => exact .inr ⟨rfl, Bool.eq_false_of_not_eq_true hr, s.upstreamBusy_iff.1 hb⟩
    case isFalse => exact .inl (answersNext_next _)

/-! ### The statement -/

/-- Settles O3: a row is an upstream cycle, or answers whatever the state. -/
theorem onlySecondCycleStops : Obligations.OnlySecondCycleStops := by
  intro c s
  by_cases hc : ∃ u, c = cycle u
  · obtain ⟨u, rfl⟩ := hc
    exact (exec_cycle_cases u s).imp_right fun ⟨hstop, hr, hb⟩ => ⟨hstop, ⟨_, _, _, _, _, rfl⟩, hr, hb⟩
  · exact .inl (exec_answersNext c s (not_exists.1 hc))

end Sys2Proof.Machine
end
